-- ==== Sys2Proof/Word.lean ====
section
/-! DEFINITION. The words and names of the OT420: characters, line levels, ports, branches, buffer numbers
(spec/00_scope.md sections 0.4 to 0.6). -/

namespace Sys2Proof

/-- The value of a character: its 8 data bits (section 0.6, "Characters and bits"). -/
abbrev Byte := BitVec 8

/-- A 16-bit number: a check (R3), a counter (R199), the generation (R33). -/
abbrev Word := BitVec 16

/-- The sequence carried in a CONTROL character, 0..31 (R4, R212). -/
abbrev Sequence := BitVec 5

/-- The level of a line: a bit of value 1 is mark and a bit of value 0 is space (R152). -/
inductive Level
  | mark
  | space
  deriving DecidableEq, Repr

/-- Branches 1 to 4 (section 0.5). -/
inductive Branch
  | b1
  | b2
  | b3
  | b4
  deriving DecidableEq, Repr

/-- A port: port 0 is the trunk, ports 1 to 4 are the branches (section 0.5). -/
inductive Port
  | trunk
  | branch (b : Branch)
  deriving DecidableEq, Repr

/-- The number of a frame buffer, 0 to 31 (R88). -/
abbrev BufferId := Fin 32

/-- The four branches in ascending number. -/
def Branch.all : List Branch := [.b1, .b2, .b3, .b4]

/-- The number of a branch as fault frames and payloads carry it. -/
def Branch.number : Branch → Nat
  | .b1 => 1
  | .b2 => 2
  | .b3 => 3
  | .b4 => 4

/-- One value for each of the four branches. -/
structure PerBranch (α : Type) where
  b1 : α
  b2 : α
  b3 : α
  b4 : α
  deriving DecidableEq, Repr

/-- The value held for one branch. -/
def PerBranch.get {α : Type} (p : PerBranch α) : Branch → α
  | .b1 => p.b1
  | .b2 => p.b2
  | .b3 => p.b3
  | .b4 => p.b4

/-- Replace the value held for one branch. -/
def PerBranch.set {α : Type} (p : PerBranch α) (b : Branch) (x : α) : PerBranch α :=
  match b with
  | .b1 => { p with b1 := x }
  | .b2 => { p with b2 := x }
  | .b3 => { p with b3 := x }
  | .b4 => { p with b4 := x }

/-- Replace every branch's value by a function of it. -/
def PerBranch.map {α β : Type} (f : α → β) (p : PerBranch α) : PerBranch β :=
  ⟨f p.b1, f p.b2, f p.b3, f p.b4⟩

end Sys2Proof
end

