-- ==== Sys2Proof/Syntax.lean ====
section
/-! DEFINITION. The commands of the block: one constructor for each row of spec/opcode_table.json, an event taken by
the block that owns the state concerned (section 0.6, "Events"). The table gives its rows no bits; the operands are the
port or branch the event is at and what the line unit hands on with it (R159). -/

namespace Sys2Proof

/-- The events of the OT420. -/
inductive Instr
  /-- POWER_ON_RESET (R167, R168): RST# is released with the straps SA[2:0] and TR[1:0] at these levels. -/
  | powerOnReset (sa : BitVec 3) (tr : BitVec 2)
  /-- RST_LOW (R167): RST# goes low. -/
  | rstLow
  /-- ADDRESS_CHARACTER (R7): a character with mark bit 1, with its value and its noisy and damaged marks. -/
  | addressCharacter (p : Port) (value : Byte) (noisy damaged : Bool)
  /-- DATA_CHARACTER (R9): a character with mark bit 0, with its value and its noisy and damaged marks. -/
  | dataCharacter (p : Port) (value : Byte) (noisy damaged : Bool)
  /-- GAP_TIMER_EXPIRY (R11). -/
  | gapTimerExpiry (p : Port)
  /-- GRANT (R98). -/
  | grant
  /-- SEND_START (R45). -/
  | sendStart (b : Branch)
  /-- END_OF_TRANSMISSION (R47). -/
  | endOfTransmission (b : Branch)
  /-- REPLY_TIMER_EXPIRY (R51). -/
  | replyTimerExpiry (b : Branch)
  /-- DATAGRAM_START (R121). -/
  | datagramStart (b : Branch)
  /-- DATAGRAM_END (R122). -/
  | datagramEnd (b : Branch)
  /-- STOPPED_CHARACTER_END (R114, R144). -/
  | stoppedCharacterEnd (p : Port)
  /-- BREAK (R117): a branch line has been at space for 2 ct. -/
  | breakHeard (b : Branch)
  /-- BREAK_END (R118, R145): a line in BREAK_IN is taken at mark. -/
  | breakEnd (p : Port)
  /-- SETTLING_END (R162): a settling line has seen 1 ct of continuous mark. -/
  | settlingEnd (p : Port)
  /-- JAM (R124). -/
  | jam (b : Branch)
  /-- BREAK_EMISSION_END (R120). -/
  | breakEmissionEnd (b : Branch)
  /-- TRUNK_LINE_RESET (R147): TRX has been at space for 2 ct. -/
  | trunkLineReset
  /-- SPACING_END (R138). -/
  | spacingEnd
  /-- TRANSMISSION_END (R141). -/
  | transmissionEnd
  /-- IDENTIFY (R177): completion. -/
  | identify
  /-- READ_STATUS (R178): completion. -/
  | readStatus
  /-- READ_COUNTERS (R179): completion. -/
  | readCounters
  /-- READ_ENTRY (R29): completion. -/
  | readEntry
  /-- WRITE_ENTRY (R26): completion. -/
  | writeEntry
  /-- CLEAR_ENTRY (R27): completion. -/
  | clearEntry
  /-- LOAD_WORKING (R28): completion. -/
  | loadWorking
  /-- COMMIT (R30): completion. -/
  | commit
  /-- SET_ADMISSION (R182): completion. -/
  | setAdmission
  /-- SET_LINE for a branch (R185): completion. -/
  | setLine
  /-- SET_LINE for port 0 (R186): completion. -/
  | trunkSetLine
  /-- SET_POLICY (R183): completion. -/
  | setPolicy
  /-- RESET_BRANCH (R126): completion. -/
  | resetBranch
  /-- SET_ADDRESS (R190): completion. -/
  | setAddress
  /-- RESTART (R192): completion. -/
  | restart
  /-- ECHO (R188): completion. -/
  | echo
  /-- UNKNOWN_COMMAND (R173): completion of a command with code 00h or 10h..FFh. -/
  | unknownCommand
  /-- START_BIT_LEADING_EDGE (R156). -/
  | startBitLeadingEdge (p : Port)
  /-- FALSE_START (R156). -/
  | falseStart (p : Port)
  deriving DecidableEq, Repr

end Sys2Proof
end

