-- ==== Sys2Proof/Decode.lean ====
section
/-! DEFINITION. The commands that a table word spells. spec/opcode_table.json gives bits to none of its rows, so no word
spells a command. -/

namespace Sys2Proof

/-- The command spelt by a word of the opcode table: none, since the table gives no row any bits. -/
def decodeTableWord (_nbits _w : Nat) : Option Instr := none

end Sys2Proof
end

