-- ==== Sys2Proof/Config.lean ====
section
/-! DEFINITION. What the OT420 fixes once (its identity, R210; its reference divisors, R168) and the one free value of
the model: the order the manual leaves open. -/

namespace Sys2Proof.Config

/-- The part code reported by IDENTIFY (R177, R210). -/
def partCode : Word := 0x0420

/-- The revision reported by IDENTIFY (R177). -/
def revision : Byte := 3

/-- The number of branches (R177). -/
def branchCount : Byte := 4

/-- The number of frame buffers (R177, R88). -/
def bufferCount : Byte := 32

/-- The number of entries of a station-map table (R177, R18). -/
def tableSize : Byte := 16

/-- Most commands the agent queue holds (R71). -/
def agentQueueLimit : Nat := 2

/-- Most records the refusal store holds (R85). -/
def refusalStoreLimit : Nat := 4

/-- The power-on trunk divisor for the TR straps (R168). -/
def strapDivisor (tr : BitVec 2) : BitVec 12 :=
  if tr = 0 then 119 else if tr = 1 then 59 else if tr = 2 then 9 else 4

/-- FREE VALUE (log entry 4). Where several of the part's own events are due at one moment, or an executing command may
complete now or later (R172), the manual lets any of them be taken first: this number, for the n-th such choice of an
idle step, says which is. It has no body: no claim can rest on a value of it. -/
opaque choice : Nat → Nat

end Sys2Proof.Config
end

