-- ==== Sys2Proof/Machine/State.lean ====
section
/-! DEFINITION. The state of the OT420 as plain data, block by block (section 0.2), and its value after power-on reset.
Each field names the rule of spec/ that gives it; reset values are those of R6, R22, R67, R103, R132, R136, R137, R138,
R166, R169, R198 and R207. -/

namespace Sys2Proof.Machine

/-! ## Why a step may stop -/

/-- Reasons for which the machine stops. -/
inductive Fault
  /-- Raised by ADDRESS_CHARACTER on a branch when the slot unit asks for the conversion of its reservation and the free
  list is empty. R95 says that the conversion always succeeds: no state in which the reservation count is within the
  free count (R94) raises this. Safe: the model stops in a state the manual rules out. -/
  | reservationUnbacked
  deriving DecidableEq, Repr

/-- Reasons for which a command has no meaning. -/
inductive Refusal
  /-- Raised by an arm of exec whose command has no meaning yet. Safe: nothing is claimed about the command. -/
  | notModelled (mnemonic : String)
  deriving DecidableEq, Repr

/-! ## Frames and buffers (Sections 1 and 5) -/

/-- The kind of a frame (section 1.1.1, R212): codes 0 to 3, and the unknown kinds 4 + low. -/
inductive Kind
  | datagram
  | request
  | reply
  | fault
  | unknown (low : BitVec 2)
  deriving DecidableEq, Repr

/-- The route part of a descriptor (R89, R81). -/
structure RoutePart where
  trunkAddress : Byte
  localAddress : Byte
  retries : Fin 4
  replyLimit : Byte
  deriving DecidableEq, Repr

/-- The descriptor of a buffer (R89). -/
structure Descriptor where
  length : Nat
  kind : Kind
  seq : Sequence
  refs : Nat
  route : Option RoutePart
  inAssembly : Bool
  deriving DecidableEq, Repr

/-- A frame buffer (R88): the characters written so far, at most 69, and the descriptor. -/
structure Buffer where
  chars : List Byte
  desc : Descriptor
  deriving DecidableEq, Repr

/-- The pool (R88, R94, R97): buffers, the free list head first, the reservation count, and the waiting set in joining
order. -/
structure Pool where
  buffers : Vector Buffer 32
  free : List BufferId
  reserved : Nat
  waiting : List Branch
  deriving DecidableEq, Repr

/-! ## The station map (Section 2) -/

/-- The kinds a window admits: 1 REQUEST only, 2 DATAGRAM only, 3 both (section 2.1). -/
inductive Admit
  | requestOnly
  | datagramOnly
  | both
  deriving DecidableEq, Repr

/-- A route entry (section 2.1, R18): every field is held whether the entry is empty or valid. -/
structure RouteEntry where
  valid : Bool
  trunkBase : Byte
  sizeCode : Fin 7
  branch : Branch
  localBase : Byte
  retries : Fin 4
  replyLimit : Byte
  accepts : Admit
  deriving DecidableEq, Repr

/-- A table of 16 route entries (R18). -/
abbrev Table := Vector RouteEntry 16

/-- ACTIVE, WORKING and the generation number (R18, R33). -/
structure StationMap where
  active : Table
  working : Table
  generation : Word
  deriving DecidableEq, Repr

/-! ## Line units (Section 8) -/

/-- Parity of a port (R152, R153). -/
inductive Parity
  | none
  | even
  | odd
  deriving DecidableEq, Repr

/-- The format of a port with its noise-strict option, as the format operand of SET_LINE packs them (section 11.3). -/
structure Format where
  parity : Parity
  twoStops : Bool
  noiseStrict : Bool
  deriving DecidableEq, Repr

/-- Divisor, format and gap limit of a port, or of one half of the trunk line unit (R154, R152, R11, R165). -/
structure LineSettings where
  divisor : BitVec 12
  format : Format
  gapLimit : Nat
  deriving DecidableEq, Repr

/-- A transmission on a transmit pin (R140, R153): the characters to send, ADDRESS first, how many have been sent whole,
and the sample ticks and reference cycles spent on the next one. It holds the settings it began with (R114). -/
structure Transmission where
  chars : List Byte
  sent : Nat
  tick : Nat
  cycles : Nat
  settings : LineSettings
  /-- Whether the first of chars is an ADDRESS: a stop (R144) can leave a later character alone. -/
  addressFirst : Bool
  deriving DecidableEq, Repr

/-- A character in reception (R156): the sample ticks counted from the leading edge, which is tick 1, and the levels read
at samples 7, 8 and 9 of each bit so far. -/
structure RxCharacter where
  count : Nat
  samples : List Level
  deriving DecidableEq, Repr

/-- The receive side of a line unit: the level read at the last sample tick, the break measure in sample ticks (R160), a
leading edge seen and not yet taken, and the character in reception or held (R156, R159). -/
structure Receiver where
  level : Level
  space : Nat
  edge : Bool
  char : Option RxCharacter
  deriving DecidableEq, Repr

/-! ## Frame assemblers (Section 1) -/

/-- A frame in assembly (section 1.2.1). With a buffer it is STORED, without one UNSTORED. -/
structure Assembly where
  /-- The buffer of a STORED frame. -/
  store : Option BufferId
  /-- ADDRESS, CONTROL and LENGTH of an UNSTORED frame, as they arrive. -/
  header : List Byte
  /-- The running check (R3). -/
  check : Word
  /-- The character count. -/
  count : Nat
  /-- The expected length, once LENGTH is taken (R2). -/
  expected : Option Nat
  spoiled : Bool
  noisy : Bool
  /-- The value of the last character taken: at CHECK LO it is CHECK HI (R9). -/
  last : Byte
  /-- The gap timer in sample ticks, while it runs (R11). -/
  gap : Option Nat
  deriving DecidableEq, Repr

/-! ## Reply slots (Section 3) -/

/-- The failure of an attempt (R41). -/
inductive Failure
  | noReply
  | badReply
  deriving DecidableEq, Repr

/-- The state of an open slot with what is present in it only (R41): the reply timer in sample ticks, the reply buffer. -/
inductive SlotPhase
  | ready
  | sending
  | waiting (timer : Nat)
  | receiving (reply : BufferId) (frozen : Option Nat)
  deriving DecidableEq, Repr

/-- An open slot (R41). An EMPTY slot is none. -/
structure Slot where
  phase : SlotPhase
  request : BufferId
  trunkAddress : Byte
  localAddress : Byte
  seq : Sequence
  retries : Fin 4
  replyLimit : Byte
  attempts : Nat
  lastFailure : Option Failure
  deriving DecidableEq, Repr

/-- A last-closed record that holds a local address and a sequence (R42). -/
structure LastClosed where
  localAddress : Byte
  seq : Sequence
  deriving DecidableEq, Repr

/-! ## Branch ports (Section 6) -/

/-- Admission of a branch (R109). -/
inductive Admission
  | opened
  | parked
  | closed
  deriving DecidableEq, Repr

/-- What a DRIVING line goes on to when the character or frame on it ends: the frame's own end, the emission a reset has
ordered (R120), or settling after a restart (R129). -/
inductive DrivingEnd
  | frame
  | emission
  | settle
  deriving DecidableEq, Repr

/-- The line state of a branch (section 6.3) with its quiet time (R116), remaining emission (R120), jam timer (R118) or
settling count (R162), in sample ticks of the branch. -/
inductive LineState
  | off
  | quiet (time : Nat)
  | driving (after : DrivingEnd)
  | hearing
  | breakOut (left : Nat)
  | breakIn (jam : Nat)
  | settling (count : Nat)
  deriving DecidableEq, Repr

/-- A counter bank of one port: its counters in the order of R199 and its summary flag (R201). -/
structure CounterBank (n : Nat) where
  counts : Vector Word n
  flag : Bool
  deriving DecidableEq, Repr

/-- A branch port: controller, slot unit, assembler and line unit of one branch. -/
structure BranchPort where
  /-- The branch queue, head first (R106). -/
  queue : List BufferId
  admission : Admission
  /-- Policy settings (R131): queue limit 1..16, grant level 1..7, broadcast option. -/
  queueLimit : Nat
  grantLevel : Nat
  broadcast : Bool
  /-- Line settings (R130). -/
  settings : LineSettings
  /-- The turnaround gap, 1..15 ct (R45). -/
  turnaround : Nat
  line : LineState
  /-- What BTX is sending: a whole frame, or the character a stop has left (R114, R120, R122). -/
  sending : Option Transmission
  /-- The reference the branch transmitter holds during a DATAGRAM (R121). -/
  datagram : Option BufferId
  assembler : Option Assembly
  slot : Option Slot
  lastClosed : Option LastClosed
  receiver : Receiver
  /-- Reference cycles since the port's last sample tick (R154). -/
  phase : Nat
  /-- MODEL: the levels BRX will have at the coming sample ticks; mark when none is listed (log entry 5). -/
  wave : List Level
  counters : CounterBank 16
  deriving DecidableEq, Repr

/-! ## The trunk side (Section 7) -/

/-- A refusal record (R137). -/
structure RefusalRecord where
  trunkAddress : Byte
  seq : Sequence
  deriving DecidableEq, Repr

/-- The mark of a response that carries a pending trunk setting or a pending restart (R141, R174). -/
inductive Carry
  | nothing
  | setting
  | restart
  deriving DecidableEq, Repr

/-- An item of the upstream queue (R134). -/
inductive UpItem
  | frame (n : BufferId) (carry : Carry)
  | refusal (r : RefusalRecord)
  deriving DecidableEq, Repr

/-- The trunk transmitter (R138): the spacing left, in reference cycles; the item being sent; or, after a stop (R144), the
character in progress that is being finished. -/
inductive TrunkTransmitter
  | idle
  | spacing (left : Nat)
  | sending (item : UpItem) (tx : Transmission)
  | stopping (tx : Transmission)
  deriving DecidableEq, Repr

/-- The trunk receive line (R145), with the settling count (R162). -/
inductive TrunkLine
  | idle
  | hearing
  | breakIn
  | settling (count : Nat)
  deriving DecidableEq, Repr

/-- The trunk port: line unit, assembler, upstream queue, refusal store, transmitter, counters of port 0. -/
structure TrunkPort where
  line : TrunkLine
  assembler : Option Assembly
  receiver : Receiver
  /-- Reference cycles since the receive half's last sample tick (R154). -/
  phase : Nat
  /-- MODEL: the levels TRX will have at the coming sample ticks; mark when none is listed (log entry 5). -/
  wave : List Level
  /-- The receive half's and the transmit half's copies of the trunk settings (R165). -/
  rxSettings : LineSettings
  txSettings : LineSettings
  transmitter : TrunkTransmitter
  /-- The upstream queue, head first (R134). -/
  upstream : List UpItem
  /-- The refusal store (R137). -/
  refusals : List RefusalRecord
  counters : CounterBank 13
  deriving DecidableEq, Repr

/-! ## The management agent (Section 9) -/

/-- The phases of a pending trunk setting (R187). -/
inductive SettingPhase
  | awaiting
  | takingUp
  deriving DecidableEq, Repr

/-- A pending trunk setting (R186). -/
structure PendingSetting where
  settings : LineSettings
  phase : SettingPhase
  deriving DecidableEq, Repr

/-- The management agent (section 9). The command at the head of its queue is the executing one (R171). -/
structure Agent where
  queue : List BufferId
  coupler : Byte
  restartPending : Bool
  responseVoid : Bool
  pendingSetting : Option PendingSetting
  /-- Reference cycles left until the executing command completes at the latest (R172). -/
  left : Nat
  deriving DecidableEq, Repr

/-! ## The whole part -/

/-- The state of the OT420. -/
structure State where
  pool : Pool
  map : StationMap
  branches : PerBranch BranchPort
  trunk : TrunkPort
  agent : Agent
  /-- Whether RST# is low (R167). -/
  rstLow : Bool
  /-- MODEL: the events waiting to be taken, first in, first out. -/
  pending : List Instr
  /-- MODEL: how many free choices idle steps have made (log entry 4). -/
  choices : Nat
  deriving DecidableEq, Repr

/-! ## Values after power-on reset -/

/-- The descriptor of a buffer that no block has claimed: it is not read (R89, R103; log entry 6). -/
def Descriptor.unclaimed : Descriptor :=
  { length := 0, kind := .datagram, seq := 0, refs := 0, route := none, inAssembly := false }

/-- A buffer that no block has claimed (log entry 6). -/
def Buffer.unclaimed : Buffer := { chars := [], desc := Descriptor.unclaimed }

/-- The pool's initial state (R103). -/
def Pool.initial : Pool :=
  { buffers := Vector.replicate 32 Buffer.unclaimed
    free := [0, 1, 2, 3, 4, 5, 6, 7, 8, 9, 10, 11, 12, 13, 14, 15, 16, 17, 18, 19, 20, 21, 22, 23, 24, 25, 26, 27, 28, 29, 30, 31]
    reserved := 0
    waiting := [] }

/-- The power-on route entry (R22). -/
def RouteEntry.powerOn : RouteEntry :=
  { valid := false, trunkBase := 0, sizeCode := 0, branch := .b1, localBase := 0, retries := 0, replyLimit := 1, accepts := .both }

/-- The power-on station map (R22). -/
def StationMap.powerOn : StationMap :=
  { active := Vector.replicate 16 RouteEntry.powerOn
    working := Vector.replicate 16 RouteEntry.powerOn
    generation := 0 }

/-- The power-on format of every port: no parity, 1 stop bit, noise-strict off (section 11.3). -/
def Format.powerOn : Format := { parity := .none, twoStops := false, noiseStrict := false }

/-- A receiver that has seen nothing (R169). -/
def Receiver.fresh : Receiver := { level := .mark, space := 0, edge := false, char := none }

/-- All counters 0 and the summary flag clear (R207). -/
def CounterBank.zero (n : Nat) : CounterBank n := { counts := Vector.replicate n 0, flag := false }

/-- A branch after power-on reset (R132, R169), with the levels its pin is going to have. -/
def BranchPort.powerOn (wave : List Level) : BranchPort :=
  { queue := [], admission := .opened, queueLimit := 8, grantLevel := 4, broadcast := true,
    settings := { divisor := 119, format := Format.powerOn, gapLimit := 3 }, turnaround := 2,
    line := .settling 0, sending := none, datagram := none, assembler := none, slot := none, lastClosed := none,
    receiver := Receiver.fresh, phase := 0, wave := wave, counters := CounterBank.zero 16 }

/-- The trunk line settings after power-on reset (R166, R168). -/
def LineSettings.trunkPowerOn (tr : BitVec 2) : LineSettings :=
  { divisor := Config.strapDivisor tr, format := Format.powerOn, gapLimit := 3 }

/-- The trunk after power-on reset (R136, R137, R138, R145, R169). -/
def TrunkPort.powerOn (tr : BitVec 2) (wave : List Level) : TrunkPort :=
  { line := .settling 0, assembler := none, receiver := Receiver.fresh, phase := 0, wave := wave,
    rxSettings := LineSettings.trunkPowerOn tr, txSettings := LineSettings.trunkPowerOn tr,
    transmitter := .idle, upstream := [], refusals := [], counters := CounterBank.zero 13 }

/-- The agent after power-on reset (R198): the coupler address is F0h + SA[2:0]. -/
def Agent.powerOn (sa : BitVec 3) : Agent :=
  { queue := [], coupler := 0xF0 + sa.setWidth 8, restartPending := false, responseVoid := false,
    pendingSetting := none, left := 0 }

/-- The part after power-on reset with the straps at sa and tr; what is outside the part (its input levels, the waiting
events, the count of free choices) is kept. -/
def State.powerOn (sa : BitVec 3) (tr : BitVec 2) (s : State) : State :=
  { pool := Pool.initial
    map := StationMap.powerOn
    branches := s.branches.map fun b => BranchPort.powerOn b.wave
    trunk := TrunkPort.powerOn tr s.trunk.wave
    agent := Agent.powerOn sa
    rstLow := false
    pending := s.pending
    choices := s.choices }

/-- The part right after power-on reset with both straps at 0 (log entry 2), no event waiting and every line at mark. -/
def State.reset : State :=
  { pool := Pool.initial
    map := StationMap.powerOn
    branches := ⟨BranchPort.powerOn [], BranchPort.powerOn [], BranchPort.powerOn [], BranchPort.powerOn []⟩
    trunk := TrunkPort.powerOn 0 []
    agent := Agent.powerOn 0
    rstLow := false
    pending := []
    choices := 0 }

end Sys2Proof.Machine
end

