-- ==== Sys2Proof/Machine/Flags.lean ====
section
/-! DEFINITION. The counter bank: counters in the fixed order of R199, saturation (R200) and the summary flags (R201). -/

namespace Sys2Proof.Machine

/-- The counters of port 0, in the order of R199. -/
inductive TrunkCounter
  | framesIn
  | framesOut
  | damaged
  | noisyChars
  | orphanChars
  | breaks
  | unrouted
  | refused
  | discarded
  | noBuffer
  | refusalLost
  | wrongKind
  | mgmtCommands
  deriving DecidableEq, Repr

/-- The place of a port 0 counter in the order of R199, from 0. -/
def TrunkCounter.index : TrunkCounter → Fin 13
  | .framesIn => 0
  | .framesOut => 1
  | .damaged => 2
  | .noisyChars => 3
  | .orphanChars => 4
  | .breaks => 5
  | .unrouted => 6
  | .refused => 7
  | .discarded => 8
  | .noBuffer => 9
  | .refusalLost => 10
  | .wrongKind => 11
  | .mgmtCommands => 12

/-- Whether a port 0 counter is of the error class (R199). -/
def TrunkCounter.isError : TrunkCounter → Bool
  | .framesIn => false
  | .framesOut => false
  | .mgmtCommands => false
  | .damaged => true
  | .noisyChars => true
  | .orphanChars => true
  | .breaks => true
  | .unrouted => true
  | .refused => true
  | .discarded => true
  | .noBuffer => true
  | .refusalLost => true
  | .wrongKind => true

/-- The counters of a branch, in the order of R199. -/
inductive BranchCounter
  | framesIn
  | framesOut
  | damaged
  | noisyChars
  | orphanChars
  | breaks
  | replies
  | noReply
  | badReply
  | retries
  | faults
  | stray
  | late
  | stale
  | jams
  | queueDrops
  deriving DecidableEq, Repr

/-- The place of a branch counter in the order of R199, from 0. -/
def BranchCounter.index : BranchCounter → Fin 16
  | .framesIn => 0
  | .framesOut => 1
  | .damaged => 2
  | .noisyChars => 3
  | .orphanChars => 4
  | .breaks => 5
  | .replies => 6
  | .noReply => 7
  | .badReply => 8
  | .retries => 9
  | .faults => 10
  | .stray => 11
  | .late => 12
  | .stale => 13
  | .jams => 14
  | .queueDrops => 15

/-- Whether a branch counter is of the error class (R199). -/
def BranchCounter.isError : BranchCounter → Bool
  | .framesIn => false
  | .framesOut => false
  | .replies => false
  | .retries => false
  | .damaged => true
  | .noisyChars => true
  | .orphanChars => true
  | .breaks => true
  | .noReply => true
  | .badReply => true
  | .faults => true
  | .stray => true
  | .late => true
  | .stale => true
  | .jams => true
  | .queueDrops => true

/-- One increment: a counter at 65535 stays there (R200). -/
def saturate (w : Word) : Word := if w = 0xFFFF then w else w + 1

/-- Count one of a bank's counters; an error-class count sets the bank's summary flag, saturated or not (R201). -/
def CounterBank.count {n : Nat} (c : CounterBank n) (i : Fin n) (isError : Bool) : CounterBank n :=
  { counts := c.counts.set i (saturate (c.counts.get i)), flag := c.flag || isError }

/-- A bank with every counter 0 and its flag as it was (R205). -/
def CounterBank.zeroCounts {n : Nat} (c : CounterBank n) : CounterBank n := { c with counts := Vector.replicate n 0 }

/-- A bank with its summary flag cleared (R206). -/
def CounterBank.clearFlag {n : Nat} (c : CounterBank n) : CounterBank n := { c with flag := false }

/-- The value of a port 0 counter. -/
def TrunkPort.counter (t : TrunkPort) (c : TrunkCounter) : Word := t.counters.counts.get c.index

/-- The value of a branch counter. -/
def BranchPort.counter (p : BranchPort) (c : BranchCounter) : Word := p.counters.counts.get c.index

/-- A branch with one of its counters counted. -/
def BranchPort.count (p : BranchPort) (c : BranchCounter) : BranchPort :=
  { p with counters := p.counters.count c.index c.isError }

/-- Port 0 with one of its counters counted. -/
def TrunkPort.count (t : TrunkPort) (c : TrunkCounter) : TrunkPort :=
  { t with counters := t.counters.count c.index c.isError }

end Sys2Proof.Machine
end

