-- ==== Sys2Proof/Machine/Operands.lean ====
section
/-! DEFINITION. The fields of frames and of management payloads: the check (R3), CONTROL (R212), fault frames (R17),
responses (R174), and the codes and operand readings of Section 11. -/

namespace Sys2Proof.Machine

/-! ## Numbers in characters (R212) -/

/-- The upper 8 bits of a two-character number. -/
def hiByte (w : Word) : Byte := w.extractLsb' 8 8

/-- The lower 8 bits of a two-character number. -/
def loByte (w : Word) : Byte := w.extractLsb' 0 8

/-- A two-character number, the more significant character first. -/
def wordOf (hi lo : Byte) : Word := hi ++ lo

/-- A count that fits a character. -/
def byteOf (n : Nat) : Byte := BitVec.ofNat 8 n

/-- Character number i of a frame or payload, counted from 0; 0 past the end. -/
def charAt (chars : List Byte) (i : Nat) : Byte := chars.getD i 0

/-! ## The check (R3) -/

/-- One place of the check's shift: 1021h is exclusive-ORed in when the bit shifted out was 1. -/
def crcShift (r : Word) : Word := if r.msb then (r <<< 1) ^^^ 0x1021 else r <<< 1

/-- The running check after one more covered character. -/
def crcChar (r : Word) (c : Byte) : Word :=
  crcShift (crcShift (crcShift (crcShift (crcShift (crcShift (crcShift (crcShift (r ^^^ wordOf c 0))))))))

/-- The value the check's register starts at. -/
def crcStart : Word := 0xFFFF

/-- The check of the covered characters of a frame. -/
def checkOf (covered : List Byte) : Word := covered.foldl crcChar crcStart

/-- A whole frame: the covered characters, then CHECK HI and CHECK LO. -/
def withCheck (covered : List Byte) : List Byte := covered ++ [hiByte (checkOf covered), loByte (checkOf covered)]

/-! ## CONTROL (R212) -/

/-- The kind a kind code names. -/
def Kind.ofCode (c : BitVec 3) : Kind :=
  if c = 0 then .datagram else if c = 1 then .request else if c = 2 then .reply else if c = 3 then .fault
  else .unknown (c.extractLsb' 0 2)

/-- The code of a kind. -/
def Kind.code : Kind → BitVec 3
  | .datagram => 0
  | .request => 1
  | .reply => 2
  | .fault => 3
  | .unknown low => 1#1 ++ low

/-- The kind in a CONTROL character: bits 7..5. -/
def controlKind (c : Byte) : Kind := Kind.ofCode (c.extractLsb' 5 3)

/-- The sequence in a CONTROL character: bits 4..0. -/
def controlSeq (c : Byte) : Sequence := c.extractLsb' 0 5

/-- The CONTROL character of a kind and a sequence: kind × 32 + sequence. -/
def controlOf (k : Kind) (q : Sequence) : Byte := k.code ++ q

/-! ## Rewriting (R16) -/

/-- A received frame with its ADDRESS rewritten and its check generated anew. -/
def rewriteAddress (a : Byte) (chars : List Byte) : List Byte :=
  withCheck (a :: (chars.drop 1).take (chars.length - 3))

/-! ## Fault frames (R17) -/

/-- The reasons of the coupler's fault frames. -/
inductive FaultReason
  | noReply
  | badReply
  | lineBreak
  | aborted
  | unrouted
  | parked
  | queueFull
  | noBuffer
  | kindBarred
  | agentBusy
  deriving DecidableEq, Repr

/-- The reason codes of R17. -/
def FaultReason.code : FaultReason → Byte
  | .noReply => 0x01
  | .badReply => 0x02
  | .lineBreak => 0x03
  | .aborted => 0x04
  | .unrouted => 0x05
  | .parked => 0x06
  | .queueFull => 0x07
  | .noBuffer => 0x08
  | .kindBarred => 0x09
  | .agentBusy => 0x0A

/-- A fault frame: trunk address, sequence, reason, branch (0 when none is concerned) and attempts. -/
def faultFrame (a : Byte) (q : Sequence) (r : FaultReason) (branch attempts : Nat) : List Byte :=
  withCheck [a, controlOf .fault q, 3, r.code, byteOf branch, byteOf attempts]

/-- The reason a failed attempt closes its slot with (R57). -/
def Failure.reason : Failure → FaultReason
  | .noReply => .noReply
  | .badReply => .badReply

/-! ## Management commands (R170, R173) -/

/-- The rows of the opcode table that are completions of commands. -/
inductive Command
  | identify
  | readStatus
  | readCounters
  | readEntry
  | writeEntry
  | clearEntry
  | loadWorking
  | commit
  | setAdmission
  | setLine
  | trunkSetLine
  | setPolicy
  | resetBranch
  | setAddress
  | restart
  | echo
  | unknown
  deriving DecidableEq, Repr

/-- The command code of a command frame: payload 1, or 00h with LENGTH 0 (R170). -/
def commandCode (chars : List Byte) : Byte := if charAt chars 2 = 0 then 0 else charAt chars 3

/-- The operands of a command frame: payload 2 onward, LENGTH − 1 of them (R170). -/
def commandOperands (chars : List Byte) : List Byte := (chars.drop 4).take ((charAt chars 2).toNat - 1)

/-- The command a code names (R173). SET_LINE is for port 0 when its first operand is 0 (R185, R186); without operands it
is counted as SET_LINE for a branch, whose result is WRONG_LENGTH too. -/
def commandOf (code : Byte) (ops : List Byte) : Command :=
  if code = 0x01 then .identify else if code = 0x02 then .readStatus else if code = 0x03 then .readCounters
  else if code = 0x04 then .readEntry else if code = 0x05 then .writeEntry else if code = 0x06 then .clearEntry
  else if code = 0x07 then .loadWorking else if code = 0x08 then .commit else if code = 0x09 then .setAdmission
  else if code = 0x0A then (if ops.head? = some 0 then .trunkSetLine else .setLine)
  else if code = 0x0B then .setPolicy else if code = 0x0C then .resetBranch else if code = 0x0D then .setAddress
  else if code = 0x0E then .restart else if code = 0x0F then .echo else .unknown

/-- Whether a command takes this many operands (section 9.3). -/
def Command.takes : Command → Nat → Bool
  | .identify, n => n == 0
  | .readStatus, n => n == 0
  | .readCounters, n => n == 2
  | .readEntry, n => n == 3
  | .writeEntry, n => n == 8
  | .clearEntry, n => n == 1
  | .loadWorking, n => n == 0
  | .commit, n => n == 0
  | .setAdmission, n => n == 2
  | .setLine, n => n == 6
  | .trunkSetLine, n => n == 6
  | .setPolicy, n => n == 4
  | .resetBranch, n => n == 1
  | .setAddress, n => n == 1
  | .restart, n => n == 0
  | .echo, n => n ≤ 62
  | .unknown, _ => true

/-- The result of a command (R173). -/
inductive Result
  | done
  | unknown
  | badOperand
  | wrongLength
  | notNow
  | rejected
  deriving DecidableEq, Repr

/-- The result codes of R212. -/
def Result.code : Result → Byte
  | .done => 0x00
  | .unknown => 0x01
  | .badOperand => 0x02
  | .wrongLength => 0x03
  | .notNow => 0x04
  | .rejected => 0x05

/-- What a command's response carries: its result and its data (R174, R214). -/
structure Verdict where
  result : Result
  data : List Byte
  deriving DecidableEq, Repr

/-- DONE with data. -/
def Verdict.done (data : List Byte) : Verdict := { result := .done, data := data }

/-- BAD_OPERAND: no data (R213). -/
def Verdict.bad : Verdict := { result := .badOperand, data := [] }

/-- NOT_NOW: no data (R174). -/
def Verdict.notNow : Verdict := { result := .notNow, data := [] }

/-- The response frame of a command (R174): its ADDRESS, kind REPLY with its sequence, code, result and data. -/
def responseFrame (address : Byte) (q : Sequence) (code : Byte) (v : Verdict) : List Byte :=
  withCheck ([address, controlOf .reply q, byteOf (2 + v.data.length), code, v.result.code] ++ v.data)

/-! ## Operand readings (R213) -/

/-- A branch operand, 01h..04h. -/
def readBranch (c : Byte) : Option Branch :=
  if c = 1 then some .b1 else if c = 2 then some .b2 else if c = 3 then some .b3 else if c = 4 then some .b4 else none

/-- A port operand, 00h..04h. -/
def readPort (c : Byte) : Option Port := if c = 0 then some .trunk else (readBranch c).map .branch

/-- A flag operand (clear, broadcast), 00h or 01h. -/
def readFlag (c : Byte) : Option Bool := if c = 0 then some false else if c = 1 then some true else none

/-- An index operand, 00h..0Fh. -/
def readIndex (c : Byte) : Option (Fin 16) := if h : c.toNat < 16 then some ⟨c.toNat, h⟩ else none

/-- A size code, 00h..06h. -/
def readSizeCode (c : Byte) : Option (Fin 7) := if h : c.toNat < 7 then some ⟨c.toNat, h⟩ else none

/-- A retries operand, 00h..03h. -/
def readRetries (c : Byte) : Option (Fin 4) := if h : c.toNat < 4 then some ⟨c.toNat, h⟩ else none

/-- A reply limit, 01h..FFh. -/
def readReplyLimit (c : Byte) : Option Byte := if c = 0 then none else some c

/-- An admit operand, 01h..03h. -/
def readAdmit (c : Byte) : Option Admit :=
  if c = 1 then some .requestOnly else if c = 2 then some .datagramOnly else if c = 3 then some .both else none

/-- A state operand of SET_ADMISSION, 00h..02h. -/
def readAdmission (c : Byte) : Option Admission :=
  if c = 0 then some .opened else if c = 1 then some .parked else if c = 2 then some .closed else none

/-- A number of an operand range lo..hi. -/
def readRange (lo hi : Nat) (c : Byte) : Option Nat := if lo ≤ c.toNat ∧ c.toNat ≤ hi then some c.toNat else none

/-- The divisor of two characters, 0..4095: N hi is at most 0Fh. -/
def readDivisor (hi lo : Byte) : Option (BitVec 12) :=
  if hi.toNat ≤ 0x0F then some (BitVec.ofNat 12 (256 * hi.toNat + lo.toNat)) else none

/-- The parity in bits 1..0 of a format operand. -/
def readParity (c : BitVec 2) : Option Parity :=
  if c = 0 then some .none else if c = 1 then some .even else if c = 2 then some .odd else none

/-- A format operand: parity in bits 1..0, stop bits in bit 2, noise-strict in bit 3, bits 7..4 zero. -/
def readFormat (c : Byte) : Option Format :=
  match readParity (c.extractLsb' 0 2) with
  | some p => if c.extractLsb' 4 4 = 0 then some { parity := p, twoStops := c.getLsbD 2, noiseStrict := c.getLsbD 3 } else none
  | none => none

/-- The divisor, format and gap limit operands of SET_LINE. -/
def readLineSettings (ops : List Byte) : Option LineSettings :=
  match readDivisor (charAt ops 1) (charAt ops 2), readFormat (charAt ops 3), readRange 1 15 (charAt ops 4) with
  | some n, some f, some g => some { divisor := n, format := f, gapLimit := g }
  | _, _, _ => none

/-- The entry that WRITE_ENTRY's operands TB, k, branch, LB, retries, R and admit give (R26). -/
def readEntryOperands (ops : List Byte) : Option RouteEntry :=
  match readSizeCode (charAt ops 2), readBranch (charAt ops 3), readRetries (charAt ops 5), readReplyLimit (charAt ops 6), readAdmit (charAt ops 7) with
  | some k, some b, some r, some l, some a =>
    some { valid := true, trunkBase := charAt ops 1, sizeCode := k, branch := b, localBase := charAt ops 4, retries := r, replyLimit := l, accepts := a }
  | _, _, _, _, _ => none

/-! ## Codes that the part writes (R212) -/

/-- 01h for set, 00h for clear. -/
def flagCode (b : Bool) : Byte := if b then 1 else 0

/-- The code of an admit field. -/
def Admit.code : Admit → Byte
  | .requestOnly => 1
  | .datagramOnly => 2
  | .both => 3

/-- The code of an admission. -/
def Admission.code : Admission → Byte
  | .opened => 0
  | .parked => 1
  | .closed => 2

/-- The code of a branch line state. A line that is finishing its last character after a close is OFF (R209). -/
def LineState.code : LineState → Byte
  | .off => 0
  | .quiet _ => 1
  | .driving _ => 2
  | .hearing => 3
  | .breakOut _ => 4
  | .breakIn _ => 5
  | .settling _ => 6

/-- The code of a slot state: EMPTY, READY, SENDING, WAITING, RECEIVING. -/
def slotCode : Option Slot → Byte
  | none => 0
  | some x =>
    match x.phase with
    | .ready => 1
    | .sending => 2
    | .waiting _ => 3
    | .receiving _ _ => 4

/-- The 8 characters of an entry in a READ_ENTRY response (R214). -/
def RouteEntry.encode (e : RouteEntry) : List Byte :=
  [flagCode e.valid, e.trunkBase, byteOf e.sizeCode, byteOf e.branch.number, e.localBase, byteOf e.retries, e.replyLimit, e.accepts.code]

end Sys2Proof.Machine
end

