-- ==== Sys2Proof/Machine/LineUnit.lean ====
section
/-! DEFINITION. Line units (Section 8): the character and its bits (R152, R153), rates and the character time (R154,
R155), sampling and character errors (R156 to R159), breaks (R160, R161), settling (R162) and the line states of a branch
(R114, R120, R163, R164). -/

namespace Sys2Proof.Machine

/-! ## The character time (R152, R154) -/

/-- Bits per character: 11, 12 or 13. -/
def Format.bits (f : Format) : Nat := 11 + (if f.parity = .none then 0 else 1) + (if f.twoStops then 1 else 0)

/-- 1 ct in sample ticks: 16 × bits per character. -/
def LineSettings.ct (ls : LineSettings) : Nat := 16 * ls.format.bits

/-- 1 ct in cycles of REFCLK: a sample tick is N + 1 cycles. -/
def LineSettings.ctCycles (ls : LineSettings) : Nat := ls.ct * (ls.divisor.toNat + 1)

/-! ## Bits of a character (R152, R153) -/

/-- A bit of value 1 is mark and a bit of value 0 is space. -/
def levelOf (bit : Bool) : Level := if bit then .mark else .space

/-- The data bits of a character, least significant first. -/
def dataBits (v : Byte) : List Bool :=
  [v.getLsbD 0, v.getLsbD 1, v.getLsbD 2, v.getLsbD 3, v.getLsbD 4, v.getLsbD 5, v.getLsbD 6, v.getLsbD 7]

/-- Whether the number of 1s among these bits is odd. -/
def oddOnes (bits : List Bool) : Bool := bits.foldl xor false

/-- The parity bit over the data bits and the mark bit, where the port sends one (R153). -/
def parityBits (p : Parity) (nine : List Bool) : List Bool :=
  match p with
  | .none => []
  | .even => [oddOnes nine]
  | .odd => [!oddOnes nine]

/-- The levels of a character in line order, one for each bit time. -/
def characterLevels (f : Format) (v : Byte) (markBit : Bool) : List Level :=
  let nine := dataBits v ++ [markBit]
  ([false] ++ nine ++ parityBits f.parity nine ++ [true] ++ (if f.twoStops then [true] else [])).map levelOf

/-! ## Transmission (R140, R153) -/

/-- The start of a transmission of a frame in the settings given. -/
def Transmission.start (chars : List Byte) (ls : LineSettings) : Transmission :=
  { chars := chars, sent := 0, tick := 0, cycles := 0, settings := ls, addressFirst := true }

/-- Every character has been sent, with its stop bits. -/
def Transmission.finished (t : Transmission) : Bool := decide (t.chars.length ≤ t.sent)

/-- A stopped transmission: only the character in progress is left (R144, R122). -/
def Transmission.stop (t : Transmission) : Transmission :=
  { t with chars := (t.chars.drop t.sent).take 1, sent := 0, addressFirst := t.addressFirst && t.sent == 0 }

/-- One cycle of REFCLK of a transmission, at the settings it began with. -/
def Transmission.cycle (t : Transmission) : Transmission :=
  if t.finished then t
  else if t.cycles < t.settings.divisor.toNat then { t with cycles := t.cycles + 1 }
  else if t.tick + 1 < t.settings.ct then { t with cycles := 0, tick := t.tick + 1 }
  else { t with cycles := 0, tick := 0, sent := t.sent + 1 }

/-- The level on the transmit pin: the current bit of the current character; ADDRESS has mark bit 1 and every later
character mark bit 0; mark when nothing is left. -/
def Transmission.level (t : Transmission) : Level :=
  if t.finished then .mark
  else (characterLevels t.settings.format (charAt t.chars t.sent) (t.addressFirst && t.sent == 0)).getD (t.tick / 16) .mark

/-! ## Reception of a character (R156 to R159) -/

/-- The majority of the three samples of a bit: mark if two or three of them are at mark. -/
def majority (s : List Level) : Bool := decide (2 ≤ (s.filter (· == .mark)).length)

/-- Whether the three samples of a bit are not all equal (R157). -/
def unequal (s : List Level) : Bool := s.contains .mark && s.contains .space

/-- Samples 7, 8 and 9 of bit j of a character. -/
def RxCharacter.bit (c : RxCharacter) (j : Nat) : List Level := (c.samples.drop (3 * j)).take 3

/-- The value of bit j. -/
def RxCharacter.value (c : RxCharacter) (j : Nat) : Bool := majority (c.bit j)

/-- The character begun by a leading edge: the edge tick is sample 1 (R156). -/
def RxCharacter.first : RxCharacter := { count := 1, samples := [] }

/-- One more sample tick: samples 7, 8 and 9 of each bit are kept. -/
def RxCharacter.sample (c : RxCharacter) (l : Level) : RxCharacter :=
  { count := c.count + 1, samples := if 6 ≤ c.count % 16 ∧ c.count % 16 ≤ 8 then c.samples ++ [l] else c.samples }

/-- Sample 9 of a start bit whose majority is mark: a false start (R156). -/
def RxCharacter.isFalseStart (c : RxCharacter) : Bool := c.count == 9 && c.value 0

/-- The nominal end of the character has been reached (R159). -/
def RxCharacter.ended (c : RxCharacter) (f : Format) : Bool := decide (16 * f.bits ≤ c.count)

/-- A tick after the nominal end: a character still in reception there is held (R159). -/
def RxCharacter.isHeld (c : RxCharacter) (f : Format) : Bool := decide (16 * f.bits < c.count)

/-- The nine data and mark bits as sampled. -/
def RxCharacter.nine (c : RxCharacter) : List Bool := (List.range 9).map fun j => c.value (j + 1)

/-- The 8-bit value as sampled, least significant bit first. -/
def RxCharacter.byte (c : RxCharacter) : Byte :=
  byteOf ((List.range 8).foldr (fun j n => 2 * n + (c.value (j + 1)).toNat) 0)

/-- The mark bit as sampled. -/
def RxCharacter.markBit (c : RxCharacter) : Bool := c.value 9

/-- The parity bit does not agree with the nine bits (R158). -/
def RxCharacter.parityWrong (c : RxCharacter) (f : Format) : Bool :=
  match parityBits f.parity c.nine with
  | [b] => c.value 10 != b
  | _ => false

/-- Every stop bit is at mark (R159). -/
def RxCharacter.stopsAtMark (c : RxCharacter) (f : Format) : Bool :=
  c.value (f.bits - 1) && (!f.twoStops || c.value (f.bits - 2))

/-- Some bit's three samples differ (R157). -/
def RxCharacter.isNoisy (c : RxCharacter) (f : Format) : Bool := (List.range f.bits).any fun j => unequal (c.bit j)

/-- A parity failure or a stop bit at space (R158, R159). -/
def RxCharacter.isDamaged (c : RxCharacter) (f : Format) : Bool := c.parityWrong f || !c.stopsAtMark f

/-! ## The receive side (R156, R160) -/

/-- A sample tick at level l of a receiver that is watching. Leading edges are looked for, and a character is sampled,
where the line takes characters (`taking`); the break measure counts ticks at space and stays at `limit` (R160). -/
def Receiver.sample (taking : Bool) (limit : Nat) (l : Level) (r : Receiver) : Receiver :=
  { level := l
    space := if l = .space then min (r.space + 1) limit else 0
    edge := taking && r.char.isNone && l == .space && r.level == .mark
    char := if taking then r.char.map (·.sample l) else none }

/-- The character in reception ends or is dropped; at the end of a character a pin at space is the leading edge of the
next start bit (R160). -/
def Receiver.endCharacter (r : Receiver) : Receiver := { r with char := none, edge := r.char.isSome && r.level == .space }

/-- A false start: the line unit looks for a new leading edge from the next tick (R156). -/
def Receiver.dropCharacter (r : Receiver) : Receiver := { r with char := none, edge := false }

/-- A leading edge is taken: the pin is at space and the character begins, with this tick as its sample 1 (R156). -/
def Receiver.beginCharacter (r : Receiver) : Receiver :=
  { level := .space, space := max r.space 1, edge := false, char := some RxCharacter.first }

/-- A break event: the pin is at space, and a held character is not delivered (R159). -/
def Receiver.breakTaken (r : Receiver) : Receiver := { r with level := .space, edge := false, char := none }

/-! ## Branch line states (section 6.3) -/

/-- The states from which characters reach the assembler (section 8.3). -/
def LineState.delivers : LineState → Bool
  | .quiet _ => true
  | .hearing => true
  | .off => false
  | .driving _ => false
  | .breakOut _ => false
  | .breakIn _ => false
  | .settling _ => false

/-- The states from which a break is detected (R117, R160). -/
def LineState.hearsBreak : LineState → Bool
  | .quiet _ => true
  | .hearing => true
  | .settling _ => true
  | .off => false
  | .driving _ => false
  | .breakOut _ => false
  | .breakIn _ => false

/-- Whether the line is OFF. -/
def LineState.isOff : LineState → Bool
  | .off => true
  | .quiet _ => false
  | .driving _ => false
  | .hearing => false
  | .breakOut _ => false
  | .breakIn _ => false
  | .settling _ => false

/-- Whether the line is QUIET. -/
def LineState.isQuiet : LineState → Bool
  | .quiet _ => true
  | .off => false
  | .driving _ => false
  | .hearing => false
  | .breakOut _ => false
  | .breakIn _ => false
  | .settling _ => false

/-- Whether the line emits a break. -/
def LineState.isBreakOut : LineState → Bool
  | .breakOut _ => true
  | .off => false
  | .quiet _ => false
  | .driving _ => false
  | .hearing => false
  | .breakIn _ => false
  | .settling _ => false

/-- BDE of a branch: asserted while the line is DRIVING or BREAK_OUT, and until the end of a character that a close left
in progress (R115, R114). -/
def BranchPort.driverEnabled (p : BranchPort) : Bool := p.sending.isSome || p.line.isBreakOut

/-- BTX of a branch: space through an emission (R161), the bits of what is being sent, mark otherwise (R163). -/
def BranchPort.transmitLevel (p : BranchPort) : Level :=
  if p.line.isBreakOut then .space
  else match p.sending with
    | some t => t.level
    | none => .mark

/-- 1 ct of the branch, in sample ticks. -/
def BranchPort.ct (p : BranchPort) : Nat := p.settings.ct

/-- The line enters QUIET with this quiet time (R116). -/
def BranchPort.goQuiet (time : Nat) (p : BranchPort) : BranchPort := { p with line := .quiet time }

/-- The line enters SETTLING: settling count and break measure start (R162, R160). -/
def BranchPort.goSettling (p : BranchPort) : BranchPort := { p with line := .settling 0, receiver := Receiver.fresh }

/-- A transmission starts: the line goes DRIVING and the receiver is blanked (R45, R121, R163). The sample ticks of the
branch are counted from here (log entry 5), so that the transmission ends at a sample tick. -/
def BranchPort.drive (chars : List Byte) (p : BranchPort) : BranchPort :=
  { p with line := .driving .frame, sending := some (Transmission.start chars p.settings), receiver := Receiver.fresh, phase := 0 }

/-- A blanked receiver at a sample tick: it takes no edge and measures nothing, and the pin's level is kept for the
release of the driver (R163). -/
def Receiver.blanked (l : Level) : Receiver := { Receiver.fresh with level := l }

/-- The driver is released at the end of a transmission, at the tick whose level the receiver holds (R47, R122, R163): with
the pin at mark the line goes QUIET with quiet time 0; with the pin at space that tick is a leading edge, the line is
HEARING, and the character and the break measure are timed from it (R117, R160). -/
def BranchPort.releaseDriver (p : BranchPort) : BranchPort :=
  match p.receiver.level with
  | .mark => { p with line := .quiet 0, sending := none, receiver := Receiver.fresh }
  | .space => { p with line := .hearing, sending := none, receiver := Receiver.fresh.beginCharacter }

/-- The line goes OFF (R114, R124). A DRIVING line finishes its character in progress, treated as OFF meanwhile. -/
def BranchPort.goOff (p : BranchPort) : BranchPort :=
  { p with line := .off, sending := p.sending.map Transmission.stop, receiver := Receiver.fresh }

/-- A break emission begins: 3 ct at space (R120, R161), 48 × b sample ticks of the branch. Ordered between two sample ticks,
it counts the next one as its first (the model's choice, log entry 5). -/
def BranchPort.emit (p : BranchPort) : BranchPort :=
  { p with line := .breakOut (3 * p.ct), sending := none, receiver := Receiver.fresh }

/-- A break emission is ordered (R120): not on an OFF line; after the character in progress on a DRIVING line; at once,
or anew, in every other state. -/
def BranchPort.orderEmission (p : BranchPort) : BranchPort :=
  match p.line with
  | .off => p
  | .driving _ => { p with line := .driving .emission, sending := p.sending.map Transmission.stop }
  | .quiet _ => p.emit
  | .hearing => p.emit
  | .breakOut _ => p.emit
  | .breakIn _ => p.emit
  | .settling _ => p.emit

/-- A restart at the line (R129): OFF stays OFF; a DRIVING line settles at the end of its character in progress; every
other line settles. -/
def BranchPort.restartLine (p : BranchPort) : BranchPort :=
  match p.line with
  | .off => p
  | .driving _ => { p with line := .driving .settle, sending := p.sending.map Transmission.stop }
  | .quiet _ => p.goSettling
  | .hearing => p.goSettling
  | .breakOut _ => p.goSettling
  | .breakIn _ => p.goSettling
  | .settling _ => p.goSettling

/-- The end of a character that a close, reset or stop left in progress (R114, R120, R129). -/
def BranchPort.stoppedCharacterEnd (p : BranchPort) : BranchPort :=
  match p.sending, p.line with
  | none, _ => p
  | some _, .driving .frame => p
  | some _, .driving .emission => p.emit
  | some _, .driving .settle => { p.goSettling with sending := none }
  | some _, .off => { p with sending := none }
  | some _, .settling _ => { p.goSettling with sending := none }
  | some _, .quiet _ => p
  | some _, .hearing => p
  | some _, .breakOut _ => p
  | some _, .breakIn _ => p

/-! ## Time passing up to an event (log entry 3)

An event that ends a timer, a transmission or a quiet gap comes when that time has passed. A command that names such an
event lets the time pass that the event waits for; each function below brings one timer of a branch to that point. -/

/-- The quiet time of a QUIET line counts on to the turnaround gap (R45, R116, R121). -/
def BranchPort.awaitQuiet (p : BranchPort) : BranchPort :=
  match p.line with
  | .quiet t => { p with line := .quiet (max t (p.turnaround * p.ct)) }
  | .off => p
  | .driving _ => p
  | .hearing => p
  | .breakOut _ => p
  | .breakIn _ => p
  | .settling _ => p

/-- A transmission with every character sent. -/
def Transmission.complete (t : Transmission) : Transmission := { t with sent := max t.sent t.chars.length }

/-- What BTX is sending goes on to its end (R47, R122, R114). -/
def BranchPort.awaitSending (p : BranchPort) : BranchPort := { p with sending := p.sending.map Transmission.complete }

/-- The jam timer counts on to 256 ct (R124). -/
def BranchPort.awaitJam (p : BranchPort) : BranchPort :=
  match p.line with
  | .breakIn j => { p with line := .breakIn (max j (256 * p.ct)) }
  | .off => p
  | .quiet _ => p
  | .driving _ => p
  | .hearing => p
  | .breakOut _ => p
  | .settling _ => p

/-- The emission holds space to its end (R120, R161). -/
def BranchPort.awaitEmission (p : BranchPort) : BranchPort :=
  match p.line with
  | .breakOut _ => { p with line := .breakOut 0 }
  | .off => p
  | .quiet _ => p
  | .driving _ => p
  | .hearing => p
  | .breakIn _ => p
  | .settling _ => p

/-- The phase of a slot whose running reply timer has counted down to 0 (R48). -/
def SlotPhase.timeOut : SlotPhase → SlotPhase
  | .waiting _ => .waiting 0
  | .ready => .ready
  | .sending => .sending
  | .receiving n f => .receiving n f

/-- The running reply timer counts down to 0 (R48). -/
def BranchPort.awaitReply (p : BranchPort) : BranchPort :=
  { p with slot := p.slot.map fun x => { x with phase := x.phase.timeOut } }

/-- A frame in assembly whose running gap timer has run out (R11). -/
def Assembly.gapOut (a : Assembly) : Assembly := { a with gap := a.gap.map fun _ => 0 }

/-! ## The trunk receive line (R145) -/

/-- The states from which characters reach the trunk assembler. -/
def TrunkLine.delivers : TrunkLine → Bool
  | .idle => true
  | .hearing => true
  | .breakIn => false
  | .settling _ => false

/-- The states from which a break is detected on TRX (R147, R160). -/
def TrunkLine.hearsBreak : TrunkLine → Bool
  | .idle => true
  | .hearing => true
  | .settling _ => true
  | .breakIn => false

/-- The trunk receive line enters SETTLING (R145, R162). -/
def TrunkPort.goSettling (t : TrunkPort) : TrunkPort := { t with line := .settling 0, receiver := Receiver.fresh }

/-- The receive side is at rest: the line IDLE, BREAK_IN or SETTLING with the assembler IDLE (R142). -/
def TrunkPort.atRest (t : TrunkPort) : Bool := !(t.line == .hearing) && t.assembler.isNone

/-- TTX: the bits of what is being sent, mark otherwise (R138, R165). -/
def TrunkPort.transmitLevel (t : TrunkPort) : Level :=
  match t.transmitter with
  | .idle => .mark
  | .spacing _ => .mark
  | .sending _ tx => tx.level
  | .stopping tx => tx.level

/-- The spacing of the trunk transmitter runs out, or what TTX is sending goes on to its end (R138, R141, R144; log
entry 3). -/
def TrunkPort.awaitTransmitter (t : TrunkPort) : TrunkPort :=
  match t.transmitter with
  | .idle => t
  | .spacing _ => { t with transmitter := .spacing 0 }
  | .sending item tx => { t with transmitter := .sending item tx.complete }
  | .stopping tx => { t with transmitter := .stopping tx.complete }

end Sys2Proof.Machine
end

