-- ==== Sys2Proof/Machine/Ops.lean ====
section
/-! DEFINITION. The operations the blocks share: access to the parts of the state, counting, the buffer pool (Section 5),
the upstream queue and the start of a trunk transmission (Section 7), the waiting set (R97), and the taking of an event. -/

namespace Sys2Proof.Machine

/-! ## Access to the parts of the state -/

/-- The port of a branch. -/
def State.branch (s : State) (b : Branch) : BranchPort := s.branches.get b

/-- Replace the port of a branch. -/
def State.setBranch (s : State) (b : Branch) (p : BranchPort) : State := { s with branches := s.branches.set b p }

/-- Change the port of a branch. -/
def State.onBranch (b : Branch) (f : BranchPort → BranchPort) (s : State) : State := s.setBranch b (f (s.branch b))

/-- Replace the trunk port. -/
def State.setTrunk (s : State) (t : TrunkPort) : State := { s with trunk := t }

/-- Change the trunk port. -/
def State.onTrunk (f : TrunkPort → TrunkPort) (s : State) : State := s.setTrunk (f s.trunk)

/-- Replace the pool. -/
def State.setPool (s : State) (p : Pool) : State := { s with pool := p }

/-- Replace the agent. -/
def State.setAgent (s : State) (a : Agent) : State := { s with agent := a }

/-- Replace the station map. -/
def State.setMap (s : State) (m : StationMap) : State := { s with map := m }

/-- Count a counter of port 0 (R199 to R203). -/
def State.countTrunk (c : TrunkCounter) (s : State) : State := s.onTrunk (·.count c)

/-- Count a counter of a branch (R199 to R202, R204). -/
def State.countBranch (b : Branch) (c : BranchCounter) (s : State) : State := s.onBranch b (·.count c)

/-! ## Buffers (R88 to R91) -/

/-- A buffer of the pool. -/
def State.buffer (s : State) (n : BufferId) : Buffer := s.pool.buffers.get n

/-- The characters of a buffer. -/
def State.chars (s : State) (n : BufferId) : List Byte := (s.buffer n).chars

/-- The descriptor of a buffer. -/
def State.desc (s : State) (n : BufferId) : Descriptor := (s.buffer n).desc

/-- Replace a buffer. -/
def State.setBuffer (n : BufferId) (x : Buffer) (s : State) : State :=
  s.setPool { s.pool with buffers := s.pool.buffers.set n x }

/-- The characters that a transmitting line unit sends of a buffer: as many as its descriptor gives (R140). -/
def State.frameChars (s : State) (n : BufferId) : List Byte := (s.chars n).take (s.desc n).length

/-- The free count (R88). -/
def State.freeCount (s : State) : Nat := s.pool.free.length

/-- A buffer at its claim: reference count 1, no route part, in assembly, with its first character (R89, R7). -/
def Buffer.claimed (x : Buffer) (v : Byte) : Buffer :=
  { chars := [v], desc := { x.desc with refs := 1, route := none, inAssembly := true } }

/-- A claim: the buffer at the head of the free list leaves it and takes the frame's first character (R88, R92, R95). -/
def State.claim (v : Byte) (n : BufferId) (rest : List BufferId) (s : State) : State :=
  State.setBuffer n ((s.buffer n).claimed v) (s.setPool { s.pool with free := rest })

/-- The last holder of a buffer lets it go: it joins the tail of the free list (R93). -/
def State.free (n : BufferId) (s : State) : State :=
  let x := s.buffer n
  let s := State.setBuffer n { x with desc := { x.desc with refs := 0 } } s
  s.setPool { s.pool with free := s.pool.free ++ [n] }

/-- A branch releases its reference to a DATAGRAM: the release that brings the reference count to 0 frees the buffer
(R91). -/
def State.releaseRef (n : BufferId) (s : State) : State :=
  let x := s.buffer n
  if x.desc.refs ≤ 1 then s.free n else State.setBuffer n { x with desc := { x.desc with refs := x.desc.refs - 1 } } s

/-- Release a reference that may be absent. -/
def State.releaseRef? (n : Option BufferId) (s : State) : State :=
  match n with
  | some n => s.releaseRef n
  | none => s

/-- Free a buffer that may be absent. -/
def State.free? (n : Option BufferId) (s : State) : State :=
  match n with
  | some n => s.free n
  | none => s

/-- Write one more character of a frame in assembly. -/
def State.writeChar (n : BufferId) (v : Byte) (s : State) : State :=
  let x := s.buffer n
  State.setBuffer n { x with chars := x.chars ++ [v] } s

/-- Fill the descriptor of a frame that completed valid (R13): length, kind and sequence, reference count 1, no route
part. -/
def State.completeBuffer (n : BufferId) (length : Nat) (s : State) : State :=
  let x := s.buffer n
  let control := charAt x.chars 1
  State.setBuffer n { x with desc := { length := length, kind := controlKind control, seq := controlSeq control, refs := 1, route := none, inAssembly := false } } s

/-- Build a fault frame over the request a buffer holds (R17): kind FAULT, frame length 8, reference count 1, no route
part. -/
def State.buildFault (n : BufferId) (a : Byte) (q : Sequence) (r : FaultReason) (branch attempts : Nat) (s : State) : State :=
  let x := s.buffer n
  State.setBuffer n { chars := faultFrame a q r branch attempts, desc := { x.desc with length := 8, kind := .fault, refs := 1, route := none } } s

/-- Rewrite the ADDRESS of the frame in a buffer and regenerate its check (R16). -/
def State.rewrite (n : BufferId) (a : Byte) (s : State) : State :=
  let x := s.buffer n
  State.setBuffer n { x with chars := rewriteAddress a x.chars } s

/-! ## Reservations (R94) -/

/-- A reservation is given to a slot, or retaken by it (R98, R96). -/
def State.reserve (s : State) : State := s.setPool { s.pool with reserved := s.pool.reserved + 1 }

/-- A reservation is converted or released (R95, R58). -/
def State.unreserve (s : State) : State := s.setPool { s.pool with reserved := s.pool.reserved - 1 }

/-- The slot states that hold a reservation: READY, SENDING and WAITING (R41). -/
def SlotPhase.holdsReservation : SlotPhase → Bool
  | .ready => true
  | .sending => true
  | .waiting _ => true
  | .receiving _ _ => false

/-- The reply buffer of a slot, present in RECEIVING (R41). -/
def SlotPhase.replyBuffer : SlotPhase → Option BufferId
  | .ready => none
  | .sending => none
  | .waiting _ => none
  | .receiving n _ => some n

/-! ## The upstream queue and the trunk transmitter (R134, R138, R139) -/

/-- The characters of an upstream item: a buffer's frame as it stands, or the NO_BUFFER fault frame built from a refusal
record (R139, R140, R17). -/
def State.itemChars (s : State) : UpItem → List Byte
  | .frame n _ => s.frameChars n
  | .refusal r => faultFrame r.trunkAddress r.seq .noBuffer 0 0

/-- The transmitter takes the item at the head of the upstream queue and starts sending it (R139). -/
def State.startTransmission (s : State) : State :=
  match s.trunk.upstream with
  | [] => s
  | item :: rest =>
    s.setTrunk { s.trunk with upstream := rest, transmitter := .sending item (Transmission.start (s.itemChars item) s.trunk.txSettings) }

/-- An IDLE transmitter starts at once (R138). -/
def State.startIfIdle (s : State) : State :=
  match s.trunk.transmitter with
  | .idle => s.startTransmission
  | .spacing _ => s
  | .sending _ _ => s
  | .stopping _ => s

/-- An item joins the tail of the upstream queue; an IDLE transmitter takes it in the same event (R135, R138). -/
def State.appendUpstream (item : UpItem) (s : State) : State :=
  (s.setTrunk { s.trunk with upstream := s.trunk.upstream ++ [item] }).startIfIdle

/-! ## The waiting set (R97) -/

/-- The entry at the head of a branch queue is a REQUEST. -/
def State.headIsRequest (s : State) (b : Branch) : Bool :=
  match (s.branch b).queue with
  | [] => false
  | n :: _ => (s.desc n).kind == .request

/-- A branch meets the four conditions of the waiting set: REQUEST at the queue head, slot EMPTY, admission not CLOSED,
line not OFF (R97, R44). -/
def State.eligible (s : State) (b : Branch) : Bool :=
  s.headIsRequest b && (s.branch b).slot.isNone && !((s.branch b).admission == .closed) && !(s.branch b).line.isOff

/-- The waiting set after an event: members that no longer meet the conditions leave, and branches that newly meet them
join behind, the lower-numbered first (R97). -/
def State.updateWaiting (s : State) : State :=
  let stay := s.pool.waiting.filter s.eligible
  let join := Branch.all.filter fun b => s.eligible b && !stay.contains b
  s.setPool { s.pool with waiting := stay ++ join }

/-! ## Taking an event -/

/-- An event is taken: while RST# is low the part takes none (R167); an event whose conditions do not hold is not an
event of the part and leaves it as it is (log entry 3); otherwise its effect is made, and the waiting set follows from it
in the same event (R97). -/
def takeEvent (possible : Bool) (effect : State → State) (s : State) : Host.Outcome State Fault Refusal :=
  if s.rstLow || !possible then .next s else .next (effect s).updateWaiting

end Sys2Proof.Machine
end

