-- ==== Sys2Proof/Machine/Map.lean ====
section
/-! DEFINITION. The station map (Section 2): windows and translation (R19, R20), lookup (R24) and the validation of
COMMIT (R30). -/

namespace Sys2Proof.Machine

/-- The size of a window, 2^k addresses (R19). -/
def RouteEntry.size (e : RouteEntry) : Nat := 2 ^ e.sizeCode.val

/-- A trunk address lies in the trunk window: TB ≤ A < TB + 2^k (R19). -/
def RouteEntry.holdsTrunk (e : RouteEntry) (a : Byte) : Bool :=
  decide (e.trunkBase.toNat ≤ a.toNat ∧ a.toNat < e.trunkBase.toNat + e.size)

/-- A local address lies in the local window: LB ≤ A < LB + 2^k (R19). -/
def RouteEntry.holdsLocal (e : RouteEntry) (a : Byte) : Bool :=
  decide (e.localBase.toNat ≤ a.toNat ∧ a.toNat < e.localBase.toNat + e.size)

/-- TB and LB are both multiples of 2^k (R19). -/
def RouteEntry.aligned (e : RouteEntry) : Bool :=
  decide (e.trunkBase.toNat % e.size = 0 ∧ e.localBase.toNat % e.size = 0)

/-- The local address of a trunk address of the window: LB + (A − TB) (R20). -/
def RouteEntry.translate (e : RouteEntry) (a : Byte) : Byte := e.localBase + (a - e.trunkBase)

/-- The entry admits a kind of station frame (R78): 1 for REQUEST only, 2 for DATAGRAM only, 3 for both. -/
def RouteEntry.admits (e : RouteEntry) (k : Kind) : Bool :=
  match e.accepts, k with
  | .both, _ => true
  | .requestOnly, k => k == .request
  | .datagramOnly, k => k == .datagram

/-- The trunk windows of two entries share an address (R30). -/
def RouteEntry.trunkOverlap (e f : RouteEntry) : Bool :=
  decide (e.trunkBase.toNat < f.trunkBase.toNat + f.size ∧ f.trunkBase.toNat < e.trunkBase.toNat + e.size)

/-- Two entries are on one branch and their local windows share an address (R30). -/
def RouteEntry.localOverlap (e f : RouteEntry) : Bool :=
  decide (e.branch = f.branch) &&
    decide (e.localBase.toNat < f.localBase.toNat + f.size ∧ f.localBase.toNat < e.localBase.toNat + e.size)

/-- The valid entry of ACTIVE whose trunk window holds a trunk address (R24). -/
def StationMap.lookup (m : StationMap) (a : Byte) : Option RouteEntry :=
  m.active.toList.find? fun e => e.valid && e.holdsTrunk a

/-- A trunk address lies in the window of a valid entry of ACTIVE (R190). -/
def StationMap.routes (m : StationMap) (a : Byte) : Bool := (m.lookup a).isSome

/-- The rejection reasons of COMMIT (R30). -/
inductive RejectReason
  | misaligned
  | reservedAddress
  | trunkOverlap
  | localOverlap
  deriving DecidableEq, Repr

/-- The codes of the rejection reasons (R30). -/
def RejectReason.code : RejectReason → Byte
  | .misaligned => 1
  | .reservedAddress => 2
  | .trunkOverlap => 3
  | .localOverlap => 4

/-- The first failure COMMIT finds: failing index, reason, other index (FFh when none) (R31). -/
structure Rejection where
  index : Nat
  reason : RejectReason
  other : Byte
  deriving DecidableEq, Repr

/-- A window of the entry holds a reserved address: 00h, FFh or the coupler address on the trunk side, 00h or FFh on the
branch side (R30). -/
def RouteEntry.reserved (e : RouteEntry) (coupler : Byte) : Bool :=
  e.holdsTrunk 0x00 || e.holdsTrunk 0xFF || e.holdsTrunk coupler || e.holdsLocal 0x00 || e.holdsLocal 0xFF

/-- The lowest index among valid entries of lower index that meets a test; `lower` holds the entries from index 0. -/
def lowestIndex (test : RouteEntry → Bool) (lower : List RouteEntry) : Option Nat :=
  lower.findIdx? fun f => f.valid && test f

/-- The checks of one valid entry in the order of R30, against the entries of lower index. -/
def RouteEntry.check (e : RouteEntry) (coupler : Byte) (lower : List RouteEntry) : Option Rejection :=
  if !e.aligned then some ⟨lower.length, .misaligned, 0xFF⟩
  else if e.reserved coupler then some ⟨lower.length, .reservedAddress, 0xFF⟩
  else match lowestIndex e.trunkOverlap lower with
    | some i => some ⟨lower.length, .trunkOverlap, byteOf i⟩
    | none =>
      match lowestIndex e.localOverlap lower with
      | some i => some ⟨lower.length, .localOverlap, byteOf i⟩
      | none => none

/-- COMMIT's validation: entries in ascending index order, empty entries skipped, ended by the first failure (R30). -/
def validateFrom (coupler : Byte) (lower : List RouteEntry) : List RouteEntry → Option Rejection
  | [] => none
  | e :: rest =>
    match if e.valid then e.check coupler lower else none with
    | some r => some r
    | none => validateFrom coupler (lower ++ [e]) rest

/-- The first failure of WORKING, if any (R30). -/
def StationMap.validate (m : StationMap) (coupler : Byte) : Option Rejection := validateFrom coupler [] m.working.toList

/-- The swap: WORKING is copied into ACTIVE and the generation rises by 1 modulo 65536 (R32). -/
def StationMap.swap (m : StationMap) : StationMap := { m with active := m.working, generation := m.generation + 1 }

end Sys2Proof.Machine
end

