-- ==== Sys2Proof/Machine/ReplySlot.lean ====
section
/-! DEFINITION. Reply slots (Section 3): opening, sending, waiting, judging the reply, retry, close and abort, and the
events GRANT, SEND_START, END_OF_TRANSMISSION and REPLY_TIMER_EXPIRY. -/

namespace Sys2Proof.Machine

/-- Replace a branch's slot. -/
def State.setSlot (b : Branch) (x : Option Slot) (s : State) : State := s.onBranch b fun p => { p with slot := x }

/-- The attempt limit of a slot: retries limit + 1 (R41). -/
def Slot.attemptLimit (x : Slot) : Nat := x.retries.val + 1

/-! ## Close (R58) -/

/-- The close of a slot with a fault frame in its request buffer (R58): the fault is appended upstream, a reservation held
is released, FAULTS is counted, the last-closed record is set and the slot is EMPTY. -/
def State.closeSlot (b : Branch) (x : Slot) (r : FaultReason) (s : State) : State :=
  let s := s.buildFault x.request x.trunkAddress x.seq r b.number x.attempts
  let s := s.appendUpstream (.frame x.request .nothing)
  let s := if x.phase.holdsReservation then s.unreserve else s
  let s := s.countBranch b .faults
  s.onBranch b fun p => { p with slot := none, lastClosed := some { localAddress := x.localAddress, seq := x.seq } }

/-- The decision on a failed attempt (R57): below the attempt limit the slot goes to READY, from RECEIVING with a
reservation retaken; at the limit it closes with the failure as its reason. -/
def State.attemptFailed (b : Branch) (x : Slot) (f : Failure) (s : State) : State :=
  let x := { x with lastFailure := some f }
  if x.attempts < x.attemptLimit then
    let s := if x.phase.holdsReservation then s else s.reserve
    s.setSlot b (some { x with phase := .ready })
  else s.closeSlot b x f.reason

/-! ## The reply (R49 to R60) -/

/-- The slot unit takes a frame under this address as the reply: its slot is WAITING, or READY after an attempt, and the
address character equals L (R49, R59). -/
def State.takesReply (s : State) (b : Branch) (v : Byte) : Option Slot :=
  match (s.branch b).slot with
  | none => none
  | some x =>
    match x.phase with
    | .waiting _ => if x.localAddress = v then some x else none
    | .ready => if x.localAddress = v ∧ 1 ≤ x.attempts then some x else none
    | .sending => none
    | .receiving _ _ => none

/-- The timer value that freezes when a slot goes to RECEIVING: the running one, or none from READY (R48, R59). A frozen
value is above 0: of a timer that has run out in the same tick, the last sample tick is not counted (R52; log entry 16). -/
def SlotPhase.frozenTimer : SlotPhase → Option Nat
  | .waiting t => some (max t 1)
  | .ready => none
  | .sending => none
  | .receiving _ f => f

/-- Conversion (R49, R95): the head of the free list becomes the reply buffer, both counts fall by 1, and the slot goes
to RECEIVING with its timer frozen. -/
def State.convert (b : Branch) (x : Slot) (v : Byte) (n : BufferId) (rest : List BufferId) (s : State) : State :=
  ((s.claim v n rest).unreserve).setSlot b (some { x with phase := .receiving n x.phase.frozenTimer })

/-- Acceptance (R53). -/
def State.acceptReply (b : Branch) (x : Slot) (n : BufferId) (s : State) : State :=
  let s := s.rewrite n x.trunkAddress
  let s := s.appendUpstream (.frame n .nothing)
  let s := s.free x.request
  let s := s.countBranch b .replies
  s.onBranch b fun p => { p with slot := none, lastClosed := some { localAddress := x.localAddress, seq := x.seq } }

/-- A stale or stray frame under L (R54, R55, R59): the reply buffer is freed, a reservation is retaken, and the slot
returns to WAITING with its frozen timer, or to READY when it had none. -/
def State.rejectReply (b : Branch) (x : Slot) (n : BufferId) (frozen : Option Nat) (c : BranchCounter) (s : State) : State :=
  let s := s.countBranch b c
  let s := (s.free n).reserve
  match frozen with
  | some t => s.setSlot b (some { x with phase := .waiting t })
  | none => s.setSlot b (some { x with phase := .ready })

/-- The judging of a stored frame that completed valid on a branch (R53 to R55, R59). -/
def State.judgeReply (b : Branch) (n : BufferId) (s : State) : State :=
  match (s.branch b).slot with
  | none => s.free n
  | some x =>
    match x.phase with
    | .receiving _ frozen =>
      match (s.desc n).kind with
      | .reply => if (s.desc n).seq = x.seq then s.acceptReply b x n else s.rejectReply b x n frozen .stale
      | .fault => if (s.desc n).seq = x.seq then s.acceptReply b x n else s.rejectReply b x n frozen .stale
      | .datagram => s.rejectReply b x n frozen .stray
      | .request => s.rejectReply b x n frozen .stray
      | .unknown _ => s.rejectReply b x n frozen .stray
    | .ready => s.free n
    | .sending => s.free n
    | .waiting _ => s.free n

/-- The slot unit is told that the stored reply was abandoned, other than by a break: BAD_REPLY is counted and the
attempt has failed (R56, R59). -/
def State.replyAbandoned (b : Branch) (s : State) : State :=
  match (s.branch b).slot with
  | none => s
  | some x =>
    match x.phase with
    | .receiving _ _ => (s.countBranch b .badReply).attemptFailed b x .badReply
    | .ready => s
    | .sending => s
    | .waiting _ => s

/-- A valid unstored frame heard on a branch matches the last-closed record as a REPLY or FAULT (R60). -/
def BranchPort.isLate (p : BranchPort) (address : Byte) (k : Kind) (q : Sequence) : Bool :=
  (k == .reply || k == .fault) && p.lastClosed == some { localAddress := address, seq := q }

/-- The classification of a valid unstored frame heard on a branch: LATE or STRAY (R60). -/
def State.classify (b : Branch) (address : Byte) (k : Kind) (q : Sequence) (s : State) : State :=
  s.countBranch b (if (s.branch b).isLate address k q then .late else .stray)

/-! ## Break and abort (R61, R64, R66) -/

/-- The slot's part in a break heard (R61): a slot that has sent its request closes with LINE_BREAK. The reply buffer of a
RECEIVING slot has been freed by the abandonment. -/
def State.breakSlot (b : Branch) (s : State) : State :=
  match (s.branch b).slot with
  | none => s
  | some x =>
    match x.phase with
    | .ready => if 1 ≤ x.attempts then s.closeSlot b x .lineBreak else s
    | .sending => s
    | .waiting _ => s.closeSlot b x .lineBreak
    | .receiving _ _ => s.closeSlot b x .lineBreak

/-- The abort of a branch's slot (R64): the reply buffer is freed and the slot closes with ABORTED. -/
def State.abortSlot (b : Branch) (s : State) : State :=
  match (s.branch b).slot with
  | none => s
  | some x => (s.free? x.phase.replyBuffer).closeSlot b x .aborted

/-- The silent close of a branch's slot (R66): reply buffer, then request buffer, freed; the reservation released; no
frame, no count; and the last-closed record becomes none. -/
def State.silentClose (b : Branch) (s : State) : State :=
  let s := match (s.branch b).slot with
    | none => s
    | some x =>
      let s := (s.free? x.phase.replyBuffer).free x.request
      if x.phase.holdsReservation then s.unreserve else s
  s.onBranch b fun p => { p with slot := none, lastClosed := none }

/-! ## GRANT (R98, R99, R44) -/

/-- The better of two waiting branches, the first of which joined first: the higher grant level, and among equal levels
the one that joined first (R99). -/
def State.preferred (s : State) (first other : Branch) : Branch :=
  if (s.branch first).grantLevel < (s.branch other).grantLevel then other else first

/-- The waiting branch that the arbiter grants to (R99). -/
def State.grantee (s : State) : Option Branch :=
  match s.pool.waiting.filter s.eligible with
  | [] => none
  | b :: rest => some (rest.foldl s.preferred b)

/-- The slot that opens at a grant (R44): T, L and the limits from the route part, the sequence from the descriptor. -/
def Slot.opened (n : BufferId) (d : Descriptor) (r : RoutePart) : Slot :=
  { phase := .ready, request := n, trunkAddress := r.trunkAddress, localAddress := r.localAddress, seq := d.seq, retries := r.retries,
    replyLimit := r.replyLimit, attempts := 0, lastFailure := none }

/-- A grant to a branch (R98, R44): the reservation count rises by 1 and the head REQUEST leaves the queue for the slot. -/
def State.grantTo (b : Branch) (s : State) : State :=
  match (s.branch b).queue with
  | [] => s
  | n :: rest =>
    match (s.desc n).route with
    | none => s
    | some r =>
      let slot := Slot.opened n (s.desc n) r
      (s.reserve).onBranch b fun p => { p with queue := rest, slot := some slot }

/-- The arbiter can make a grant: the free count is greater than the reservation count and the waiting set is not empty
(R98). -/
def State.grantPossible (s : State) : Bool := decide (s.pool.reserved < s.freeCount) && s.grantee.isSome

/-- The effect of GRANT. -/
def State.takeGrant (s : State) : State :=
  match s.grantee with
  | none => s
  | some b => s.grantTo b

/-- GRANT (R98). -/
def execGrant (s : State) : Host.Outcome State Fault Refusal := takeEvent s.grantPossible State.takeGrant s

/-! ## SEND_START (R45) -/

/-- A send start is due: the slot is READY, the branch line is QUIET and its quiet time has reached the turnaround gap
(R45). -/
def BranchPort.sendStartDue (p : BranchPort) : Bool :=
  match p.slot, p.line with
  | some x, .quiet t => x.phase == .ready && decide (p.turnaround * p.ct ≤ t)
  | _, _ => false

/-- The send start (R45): attempts rises, RETRIES is counted from the second on, the slot goes SENDING and the line unit
drives the request buffer's frame. -/
def State.takeSendStart (b : Branch) (s : State) : State :=
  match (s.branch b).slot with
  | none => s
  | some x =>
    let x := { x with attempts := x.attempts + 1, phase := .sending }
    let s := if 2 ≤ x.attempts then s.countBranch b .retries else s
    let chars := s.frameChars x.request
    s.onBranch b fun p => { p.drive chars with slot := some x }

/-- SEND_START (R45). On a QUIET line the turnaround gap passes first (log entry 3). -/
def execSendStart (b : Branch) (s : State) : Host.Outcome State Fault Refusal :=
  takeEvent (s.branch b).awaitQuiet.sendStartDue (State.takeSendStart b) s

/-! ## END_OF_TRANSMISSION (R47) -/

/-- The end of a request's transmission is due: the slot is SENDING, and the line DRIVING with the last stop bit of CHECK
LO sent (R47). -/
def BranchPort.endOfTransmissionDue (p : BranchPort) : Bool :=
  match p.slot, p.sending with
  | some x, some t => x.phase == .sending && p.line == .driving .frame && t.finished
  | _, _ => false

/-- The end of a request's transmission (R47): FRAMES_OUT, WAITING with the reply timer loaded with 2 × R ct, and the line
QUIET with quiet time 0. -/
def State.takeEndOfTransmission (b : Branch) (s : State) : State :=
  match (s.branch b).slot with
  | none => s
  | some x =>
    let s := s.countBranch b .framesOut
    s.onBranch b fun p => { p.releaseDriver with slot := some { x with phase := .waiting (2 * x.replyLimit.toNat * p.ct) } }

/-- END_OF_TRANSMISSION (R47). What is being sent goes on to its end first (log entry 3). -/
def execEndOfTransmission (b : Branch) (s : State) : Host.Outcome State Fault Refusal :=
  takeEvent (s.branch b).awaitSending.endOfTransmissionDue (State.takeEndOfTransmission b) s

/-! ## REPLY_TIMER_EXPIRY (R51) -/

/-- The expiry is due: the remaining value of the reply timer is 0 while the slot is WAITING (R48). -/
def BranchPort.replyTimerExpiryDue (p : BranchPort) : Bool :=
  match p.slot with
  | none => false
  | some x => x.phase == .waiting 0

/-- The expiry of the reply timer (R51): NO_REPLY is counted and the attempt has failed. -/
def State.takeReplyTimerExpiry (b : Branch) (s : State) : State :=
  match (s.branch b).slot with
  | none => s
  | some x => (s.countBranch b .noReply).attemptFailed b x .noReply

/-- REPLY_TIMER_EXPIRY (R51). A running timer counts down to 0 first (log entry 3). -/
def execReplyTimerExpiry (b : Branch) (s : State) : Host.Outcome State Fault Refusal :=
  takeEvent (s.branch b).awaitReply.replyTimerExpiryDue (State.takeReplyTimerExpiry b) s

end Sys2Proof.Machine
end

