-- ==== Sys2Proof/Machine/Router.lean ====
section
/-! DEFINITION. The trunk router (Section 4): the routing decision on each valid trunk frame, broadcast, router faults,
refusal records, and the append to the agent queue with the beginning of a command (R171). -/

namespace Sys2Proof.Machine

/-! ## The agent takes a command (R171, R172) -/

/-- The longest time a command may execute, in cycles of REFCLK: 16 ct of the trunk for COMMIT and 1 ct for every other
command, at the receive settings in force when it begins (R172). -/
def State.commandTime (s : State) (n : BufferId) : Nat :=
  (if commandCode (s.chars n) = 0x08 then 16 else 1) * s.trunk.rxSettings.ctCycles

/-- The agent takes the command at the head of its queue, if there is one, and it begins (R171). -/
def State.beginCommand (s : State) : State :=
  match s.agent.queue with
  | [] => s.setAgent { s.agent with left := 0 }
  | n :: _ => s.setAgent { s.agent with left := s.commandTime n }

/-- A command joins the tail of the agent queue; with the queue empty it begins at once (R71, R171), timed at the settings
before any that its own event lets the receive half take up (log entry 11). -/
def State.appendCommand (n : BufferId) (s : State) : State :=
  match s.agent.queue with
  | [] => (s.setAgent { s.agent with queue := [n] }).beginCommand
  | q => s.setAgent { s.agent with queue := q ++ [n] }

/-! ## What the router does with a frame -/

/-- A router fault in the refused REQUEST's buffer (R83): REFUSED is counted and the fault goes upstream. -/
def State.routerFault (n : BufferId) (r : FaultReason) (branch : Nat) (s : State) : State :=
  let s := s.countTrunk .refused
  let s := s.buildFault n (charAt (s.chars n) 0) (s.desc n).seq r branch 0
  s.appendUpstream (.frame n .nothing)

/-- A stored DATAGRAM is freed unsent and DISCARDED is counted (R71, R76). -/
def State.discard (n : BufferId) (s : State) : State := (s.countTrunk .discarded).free n

/-- A WRONG_KIND discard (R72). -/
def State.wrongKind (n : BufferId) (s : State) : State := (s.countTrunk .wrongKind).free n

/-- A refused station frame: a REQUEST is answered with a router fault, a DATAGRAM is discarded (R76). -/
def State.refuse (n : BufferId) (r : FaultReason) (branch : Nat) (s : State) : State :=
  if (s.desc n).kind = .request then s.routerFault n r branch else s.discard n

/-! ## Frames to the coupler (R71) -/

/-- A stored DATAGRAM or REQUEST to the coupler address (R71): to the agent queue if it holds fewer than 2 commands. -/
def State.routeToAgent (n : BufferId) (s : State) : State :=
  if s.agent.queue.length < Config.agentQueueLimit then s.appendCommand n else s.refuse n .agentBusy 0

/-! ## Broadcast (R74) -/

/-- A branch takes a broadcast: it is OPEN, its broadcast option is on and its queue is below its limit (R74). -/
def BranchPort.takesBroadcast (p : BranchPort) : Bool :=
  p.admission == .opened && p.broadcast && decide (p.queue.length < p.queueLimit)

/-- The broadcast decision at one branch: one reference at the tail of its queue, or QUEUE_DROPS (R74). -/
def BranchPort.broadcast? (n : BufferId) (p : BranchPort) : BranchPort :=
  if p.takesBroadcast then { p with queue := p.queue ++ [n] } else p.count .queueDrops

/-- The branches that take a broadcast. -/
def State.broadcastTakers (s : State) : List Branch := Branch.all.filter fun b => (s.branch b).takesBroadcast

/-- The distribution of a stored DATAGRAM to FFh (R74). -/
def State.routeBroadcast (n : BufferId) (s : State) : State :=
  let takers := s.broadcastTakers.length
  let s := { s with branches := s.branches.map (BranchPort.broadcast? n) }
  if takers = 0 then s.discard n
  else
    let x := s.buffer n
    State.setBuffer n { x with desc := { x.desc with refs := takers } } s

/-! ## Station frames (R76 to R81) -/

/-- The route part of a REQUEST routed by an entry (R81). -/
def RouteEntry.routePart (e : RouteEntry) (a : Byte) : RoutePart :=
  { trunkAddress := a, localAddress := e.translate a, retries := e.retries, replyLimit := e.replyLimit }

/-- The append of a station frame to its branch queue (R81): rewritten to L, with its route part when it is a REQUEST. -/
def State.appendToBranch (n : BufferId) (a : Byte) (e : RouteEntry) (s : State) : State :=
  let s := s.rewrite n (e.translate a)
  let x := s.buffer n
  let route := if x.desc.kind = .request then some (e.routePart a) else none
  let s := State.setBuffer n { x with desc := { x.desc with route := route, refs := 1 } } s
  s.onBranch e.branch fun p => { p with queue := p.queue ++ [n] }

/-- A frame refused for its branch's admission or queue limit: a DATAGRAM also counts QUEUE_DROPS on the branch (R79,
R80). -/
def State.refuseAtBranch (n : BufferId) (r : FaultReason) (b : Branch) (s : State) : State :=
  let s := if (s.desc n).kind = .request then s else s.countBranch b .queueDrops
  s.refuse n r b.number

/-- The four tests of R76 on a stored station DATAGRAM or REQUEST to address A, in their order. -/
def State.routeStation (n : BufferId) (a : Byte) (s : State) : State :=
  match s.map.lookup a with
  | none => (s.countTrunk .unrouted).refuse n .unrouted 0
  | some e =>
    if !e.admits (s.desc n).kind then s.refuse n .kindBarred e.branch.number
    else if !((s.branch e.branch).admission == .opened) then s.refuseAtBranch n .parked e.branch
    else if (s.branch e.branch).queueLimit ≤ (s.branch e.branch).queue.length then s.refuseAtBranch n .queueFull e.branch
    else s.appendToBranch n a e

/-! ## The decision (R70, R84) -/

/-- The routing decision on a stored valid frame: first by its address, then by its kind (R70). -/
def State.routeStored (n : BufferId) (s : State) : State :=
  let a := charAt (s.chars n) 0
  let k := (s.desc n).kind
  if a = 0x00 then s.wrongKind n
  else if a = 0xFF then (if k = .datagram then s.routeBroadcast n else s.wrongKind n)
  else if !(k == .datagram || k == .request) then s.wrongKind n
  else if a = s.agent.coupler then s.routeToAgent n
  else s.routeStation n a

/-- The refusal store is handed a record (R85): it enters with its item, or REFUSAL_LOST is counted. -/
def State.storeRefusal (r : RefusalRecord) (s : State) : State :=
  if s.trunk.refusals.length < Config.refusalStoreLimit then
    (s.setTrunk { s.trunk with refusals := s.trunk.refusals ++ [r] }).appendUpstream (.refusal r)
  else s.countTrunk .refusalLost

/-- The decision on a valid unstored frame, on its header alone (R84). -/
def State.routeUnstored (a : Byte) (k : Kind) (q : Sequence) (s : State) : State :=
  if k = .request ∧ a ≠ 0x00 ∧ a ≠ 0xFF then s.storeRefusal { trunkAddress := a, seq := q } else s

end Sys2Proof.Machine
end

