-- ==== Sys2Proof/Machine/TrunkSide.lean ====
section
/-! DEFINITION. The pending trunk setting (R142, R187), and the restart (R143, R194, R195). -/

namespace Sys2Proof.Machine

/-! ## The pending trunk setting (R142) -/

/-- The receive half takes up new settings; a SETTLING line restarts its 1 ct of mark in the new ct (R142). A break
measure that runs on a SETTLING line at space, or on an IDLE one at space after a false start, an orphan or CHECK LO, keeps
the sample ticks it has counted, and is compared with 2 ct of the new settings from here on: the spec is silent on it
(R146, R160, R165; the model's choice, log entry 15). The cycles of REFCLK counted since the last
sample tick are kept too, and compared with the new N (the model's choice, log entry 5). -/
def TrunkPort.takeUpReceive (ls : LineSettings) (t : TrunkPort) : TrunkPort :=
  let t := { t with rxSettings := ls }
  match t.line with
  | .settling _ => { t with line := .settling 0 }
  | .idle => t
  | .hearing => t
  | .breakIn => t

/-- The pending setting takes effect (R142, R187): the transmit half takes it up, and the receive half too when it is at
rest; otherwise the setting is in the phase of being taken up. -/
def State.settingTakesEffect (s : State) : State :=
  match s.agent.pendingSetting with
  | none => s
  | some p =>
    match p.phase with
    | .takingUp => s
    | .awaiting =>
      let s := s.onTrunk fun t => { t with txSettings := p.settings }
      if s.trunk.atRest then
        (s.onTrunk (TrunkPort.takeUpReceive p.settings)).setAgent { s.agent with pendingSetting := none }
      else s.setAgent { s.agent with pendingSetting := some { p with phase := .takingUp } }

/-- The receive half takes up a setting being taken up at the event that brings it to rest (R142). -/
def State.receiveAtRest (s : State) : State :=
  match s.agent.pendingSetting with
  | none => s
  | some p =>
    match p.phase with
    | .awaiting => s
    | .takingUp =>
      if s.trunk.atRest then
        (s.onTrunk (TrunkPort.takeUpReceive p.settings)).setAgent { s.agent with pendingSetting := none }
      else s

/-- A pending setting, in either phase, ends by taking effect on both halves: at a trunk line reset (R149) and at a
restart (R143), where the receive half is at rest. -/
def State.settingEnds (s : State) : State := s.settingTakesEffect.receiveAtRest

/-! ## Restart (R143, R194) -/

/-- A stop of the trunk transmitter: a transmission in progress keeps only its current character (R144). -/
def TrunkTransmitter.stop : TrunkTransmitter → TrunkTransmitter
  | .idle => .idle
  | .spacing n => .spacing n
  | .sending _ tx => .stopping tx.stop
  | .stopping tx => .stopping tx

/-- The traffic state of a branch is cleared: assembler, slot, last-closed record, queue and transmitter reference. -/
def BranchPort.clearTraffic (p : BranchPort) : BranchPort :=
  { p with queue := [], datagram := none, assembler := none, slot := none, lastClosed := none }

/-- A restart at a branch (R129, R67, R207). -/
def BranchPort.restart (p : BranchPort) : BranchPort :=
  { p.clearTraffic.restartLine with counters := CounterBank.zero 16 }

/-- The pool after a restart (R103): all buffers free in ascending order, but for that of a command that keeps executing.
What the freed buffers then hold the spec does not give (not read until each is claimed): no characters and an empty
descriptor, as after power-on reset (the model's choice, log entry 6). -/
def Pool.restarted (p : Pool) (keep : Option BufferId) : Pool :=
  match keep with
  | none => Pool.initial
  | some n => { Pool.initial with buffers := Pool.initial.buffers.set n (p.buffers.get n), free := Pool.initial.free.filter (· != n) }

/-- The trunk side at a restart (R143): upstream queue and refusal store emptied, transmission stopped, assembler IDLE,
counters zeroed, receive line SETTLING. -/
def TrunkPort.restart (t : TrunkPort) : TrunkPort :=
  { t.goSettling with assembler := none, transmitter := t.transmitter.stop, upstream := [], refusals := [], counters := CounterBank.zero 13 }

/-- A restart takes effect (R193 to R195): traffic state cleared, configuration kept, agent queue emptied, restart-pending
and response-void flags clear. -/
def State.restartTakesEffect (s : State) : State :=
  let s := { s with branches := s.branches.map BranchPort.restart }
  let s := s.setPool (s.pool.restarted none)
  let s := s.onTrunk TrunkPort.restart
  let s := s.setAgent { s.agent with queue := [], restartPending := false, responseVoid := false, left := 0 }
  s.settingEnds

end Sys2Proof.Machine
end

