-- ==== Sys2Proof/Machine/Assembler.lean ====
section
/-! DEFINITION. The frame assemblers (Section 1): the events ADDRESS_CHARACTER, DATA_CHARACTER, GAP_TIMER_EXPIRY,
START_BIT_LEADING_EDGE and FALSE_START, at any of the five ports. -/

namespace Sys2Proof.Machine

/-! ## What is alike at the five ports -/

/-- The counters that an assembler counts on its port (R203, R204). -/
inductive PortCounter
  | framesIn
  | damaged
  | noisyChars
  | orphanChars
  deriving DecidableEq, Repr

/-- The counter of that name on port 0. -/
def PortCounter.ofTrunk : PortCounter → TrunkCounter
  | .framesIn => .framesIn
  | .damaged => .damaged
  | .noisyChars => .noisyChars
  | .orphanChars => .orphanChars

/-- The counter of that name on a branch. -/
def PortCounter.ofBranch : PortCounter → BranchCounter
  | .framesIn => .framesIn
  | .damaged => .damaged
  | .noisyChars => .noisyChars
  | .orphanChars => .orphanChars

/-- Count one of an assembler's counters on its port. -/
def State.countPort (p : Port) (c : PortCounter) (s : State) : State :=
  match p with
  | .trunk => s.countTrunk c.ofTrunk
  | .branch b => s.countBranch b c.ofBranch

/-- The receive settings of a port (R155, R165). -/
def State.receiveSettings (s : State) : Port → LineSettings
  | .trunk => s.trunk.rxSettings
  | .branch b => (s.branch b).settings

/-- The assembler of a port. -/
def State.assembler (s : State) : Port → Option Assembly
  | .trunk => s.trunk.assembler
  | .branch b => (s.branch b).assembler

/-- Replace the assembler of a port. -/
def State.setAssembler (p : Port) (x : Option Assembly) (s : State) : State :=
  match p with
  | .trunk => s.onTrunk fun t => { t with assembler := x }
  | .branch b => s.onBranch b fun q => { q with assembler := x }

/-- The receive side of a port. -/
def State.receiver (s : State) : Port → Receiver
  | .trunk => s.trunk.receiver
  | .branch b => (s.branch b).receiver

/-- Change the receive side of a port. -/
def State.onReceiver (p : Port) (f : Receiver → Receiver) (s : State) : State :=
  match p with
  | .trunk => s.onTrunk fun t => { t with receiver := f t.receiver }
  | .branch b => s.onBranch b fun q => { q with receiver := f q.receiver }

/-- The line of a port delivers characters: QUIET, IDLE or HEARING (section 8.3). -/
def State.delivers (s : State) : Port → Bool
  | .trunk => s.trunk.line.delivers
  | .branch b => (s.branch b).line.delivers

/-- The line of a port is HEARING. -/
def State.isHearing (s : State) : Port → Bool
  | .trunk => s.trunk.line == .hearing
  | .branch b => (s.branch b).line == .hearing

/-- The line of a port is HEARING from this event on. -/
def State.hear (p : Port) (s : State) : State :=
  match p with
  | .trunk => s.onTrunk fun t => { t with line := .hearing }
  | .branch b => s.onBranch b fun q => { q with line := .hearing }

/-- The line of a port is idle from this event on, with its assembler IDLE: a branch is QUIET with this quiet time
(R116); the trunk is IDLE, where a setting being taken up reaches the receive half (R145, R142). -/
def State.rest (p : Port) (quietTime : Nat) (s : State) : State :=
  match p with
  | .trunk => (s.onTrunk fun t => { t with line := .idle }).receiveAtRest
  | .branch b => s.onBranch b (BranchPort.goQuiet quietTime)

/-- The gap limit of a port in sample ticks (R11). -/
def LineSettings.gapTicks (ls : LineSettings) : Nat := ls.gapLimit * ls.ct

/-! ## Abandonment (R14) -/

/-- A frame in assembly is abandoned: DAMAGED is counted, the buffer of a STORED frame is freed and the assembler is
IDLE (R14). -/
def State.abandonFrame (p : Port) (a : Assembly) (s : State) : State :=
  ((s.countPort p .damaged).free? a.store).setAssembler p none

/-- The slot unit of a branch is told of a stored frame's abandonment; on the trunk no block is told (R14). -/
def State.tellOwner (p : Port) (a : Assembly) (s : State) : State :=
  match p, a.store with
  | .branch b, some _ => s.replyAbandoned b
  | .branch _, none => s
  | .trunk, _ => s

/-- Abandonment for any reason but a break: the owner is told in the same event (R14, R56). -/
def State.abandon (p : Port) (a : Assembly) (s : State) : State := (s.abandonFrame p a).tellOwner p a

/-! ## Marks (R12) -/

/-- The marks that a character sets on its frame: damage spoils it, and so does noise with noise-strict on; noise that
does not spoil it sets the noisy mark (R12). A character that is damaged too sets no noisy mark (log entry 12). -/
def Assembly.mark (strict noisy damaged : Bool) (a : Assembly) : Assembly :=
  { a with spoiled := a.spoiled || damaged || (noisy && strict), noisy := a.noisy || (noisy && !strict && !damaged) }

/-- A noisy character, in a frame or not, is counted in NOISY_CHARS (R12, R8). -/
def State.countNoise (p : Port) (noisy : Bool) (s : State) : State := if noisy then s.countPort p .noisyChars else s

/-! ## ADDRESS_CHARACTER (R7, R10) -/

/-- A frame begun by an address character: count 1, no marks, the value in the running check from FFFFh (R6, R7). -/
def Assembly.start (store : Option BufferId) (v : Byte) : Assembly :=
  { store := store, header := if store.isSome then [] else [v], check := crcChar crcStart v, count := 1, expected := none,
    spoiled := false, noisy := false, last := v, gap := none }

/-- The trunk assembler's claim (R7, R92): the head of the free list when the free count exceeds the reservation count,
otherwise no buffer and NO_BUFFER counted. -/
def State.claimTrunk (v : Byte) (s : State) : Option BufferId × State :=
  match s.pool.free with
  | n :: rest => if s.pool.reserved < s.freeCount then (some n, s.claim v n rest) else (none, s.countTrunk .noBuffer)
  | [] => (none, s.countTrunk .noBuffer)

/-- A branch assembler's request to the slot unit (R7, R49, R95): the converted buffer, or none for an unstored frame. A
conversion asked for with an empty free list has no answer: R95 rules it out. -/
def State.claimBranch (b : Branch) (v : Byte) (s : State) : Option (Option BufferId × State) :=
  match s.takesReply b v with
  | none => some (none, s)
  | some x =>
    match s.pool.free with
    | n :: rest => some (some n, s.convert b x v n rest)
    | [] => none

/-- Where a new frame is kept (R7). -/
def State.claimFor (p : Port) (v : Byte) (s : State) : Option (Option BufferId × State) :=
  match p with
  | .trunk => some (s.claimTrunk v)
  | .branch b => s.claimBranch b v

/-- An early address ends the frame in assembly first (R10). -/
def State.endEarly (p : Port) (s : State) : State :=
  match s.assembler p with
  | none => s
  | some a => s.abandon p a

/-- The frame begun by an address character is in assembly: marked as R12 says, its gap timer loaded at the end of the
character (R11), the line HEARING (R116, R145). -/
def State.beginFrame (p : Port) (v : Byte) (noisy damaged : Bool) (store : Option BufferId) (s : State) : State :=
  let ls := s.receiveSettings p
  let a := (Assembly.start store v).mark ls.format.noiseStrict noisy damaged
  let s := s.setAssembler p (some { a with gap := some ls.gapTicks })
  (s.hear p).onReceiver p Receiver.endCharacter

/-- The effect of an address character (R7, R10), where a frame has a place to be kept. -/
def State.takeAddress (p : Port) (v : Byte) (noisy damaged : Bool) (s : State) : Option State :=
  match (s.endEarly p).claimFor p v with
  | some (store, s) => some ((s.beginFrame p v noisy damaged store).countNoise p noisy)
  | none => none

/-- ADDRESS_CHARACTER (R7, R10). -/
def execAddressCharacter (p : Port) (v : Byte) (noisy damaged : Bool) (s : State) : Host.Outcome State Fault Refusal :=
  if s.rstLow || !s.delivers p then .next s
  else match s.takeAddress p v noisy damaged with
    | some s => .next s.updateWaiting
    | none => .fault .reservationUnbacked

/-! ## DATA_CHARACTER (R8, R9, R13) -/

/-- An orphan character (R8): counted, not stored, and the line's quiet time starts anew. -/
def State.takeOrphan (p : Port) (s : State) : State := (s.countPort p .orphanChars).rest p 0

/-- The place of a character in its frame, from its position and the expected length (R2, R9). -/
inductive Place
  | control
  | length
  | payload
  | checkHi
  | checkLo
  deriving DecidableEq, Repr

/-- The place of the character at a position counted from 1. -/
def Assembly.place (a : Assembly) : Place :=
  match a.expected with
  | none => if a.count = 1 then .control else .length
  | some e => if a.count + 1 = e then .checkLo else if a.count + 2 = e then .checkHi else .payload

/-- The check covers ADDRESS, CONTROL, LENGTH and the payload (R3). -/
def Place.covered : Place → Bool
  | .control => true
  | .length => true
  | .payload => true
  | .checkHi => false
  | .checkLo => false

/-- The header keeps CONTROL and LENGTH of an UNSTORED frame (R9). -/
def Place.inHeader : Place → Bool
  | .control => true
  | .length => true
  | .payload => false
  | .checkHi => false
  | .checkLo => false

/-- A frame in assembly with one more character (R2, R9): count, running check, header, expected length. -/
def Assembly.take (v : Byte) (a : Assembly) : Assembly :=
  { a with
    header := if a.place.inHeader && a.store.isNone then a.header ++ [v] else a.header
    check := if a.place.covered then crcChar a.check v else a.check
    count := a.count + 1
    expected := if a.place = .length then some (5 + v.toNat) else a.expected
    last := v }

/-- In STORED the character is written into the buffer at its position (R9). -/
def State.storeChar (a : Assembly) (v : Byte) (s : State) : State :=
  match a.store with
  | some n => s.writeChar n v
  | none => s

/-- Delivery of a valid frame to its owner (R13): a STORED frame with its descriptor filled, an UNSTORED one as its
header. -/
def State.deliver (p : Port) (a : Assembly) (s : State) : State :=
  match p, a.store with
  | .trunk, some n => (s.completeBuffer n a.count).routeStored n
  | .branch b, some n => (s.completeBuffer n a.count).judgeReply b n
  | .trunk, none => s.routeUnstored (charAt a.header 0) (controlKind (charAt a.header 1)) (controlSeq (charAt a.header 1))
  | .branch b, none => s.classify b (charAt a.header 0) (controlKind (charAt a.header 1)) (controlSeq (charAt a.header 1))

/-- Completion at CHECK LO (R13): `a` is the frame with CHECK LO counted and `received` the check received. -/
def State.completeFrame (p : Port) (a : Assembly) (received : Word) (s : State) : State :=
  if a.spoiled || !(a.check == received) then s.abandon p a
  else ((s.countPort p .framesIn).setAssembler p none).deliver p a

/-- The next character of a frame in assembly (R9): over-length at LENGTH, completion at CHECK LO, otherwise the frame
goes on with its gap timer loaded anew. -/
def State.takeInFrame (p : Port) (v : Byte) (noisy damaged : Bool) (a : Assembly) (s : State) : State :=
  let ls := s.receiveSettings p
  let next := (a.take v).mark ls.format.noiseStrict noisy damaged
  let s := s.storeChar a v
  if a.place = .length ∧ 64 < v.toNat then (s.abandon p a).rest p 0
  else if a.place = .checkLo then (s.completeFrame p next (wordOf a.last v)).rest p 0
  else (s.setAssembler p (some { next with gap := some ls.gapTicks })).hear p

/-- The effect of a data character (R8, R9). -/
def State.takeData (p : Port) (v : Byte) (noisy damaged : Bool) (s : State) : State :=
  let s := match s.assembler p with
    | none => s.takeOrphan p
    | some a => s.takeInFrame p v noisy damaged a
  (s.onReceiver p Receiver.endCharacter).countNoise p noisy

/-- DATA_CHARACTER (R8, R9, R13). -/
def execDataCharacter (p : Port) (v : Byte) (noisy damaged : Bool) (s : State) : Host.Outcome State Fault Refusal :=
  takeEvent (s.delivers p) (State.takeData p v noisy damaged) s

/-! ## GAP_TIMER_EXPIRY (R11) -/

/-- The gap timer of a frame in assembly has run out. -/
def Assembly.gapExpired (a : Assembly) : Bool := a.gap == some 0

/-- A gap expiry is due at a port (R11). -/
def State.gapTimerExpiryDue (s : State) (p : Port) : Bool :=
  match s.assembler p with
  | none => false
  | some a => a.gapExpired

/-- The gap timer of a port, if it runs, runs out (R11; log entry 3). -/
def State.awaitGap (p : Port) (s : State) : State := s.setAssembler p ((s.assembler p).map Assembly.gapOut)

/-- The expiry of the gap timer (R11): the frame is abandoned as a gap; a branch is QUIET with the gap limit as its quiet
time (R116), the trunk IDLE. -/
def State.takeGapTimerExpiry (p : Port) (s : State) : State :=
  match s.assembler p with
  | none => s
  | some a => (s.abandon p a).rest p (s.receiveSettings p).gapTicks

/-- GAP_TIMER_EXPIRY (R11). A running timer runs out first (log entry 3). -/
def execGapTimerExpiry (p : Port) (s : State) : Host.Outcome State Fault Refusal :=
  takeEvent ((s.awaitGap p).gapTimerExpiryDue p) (State.takeGapTimerExpiry p) s

/-! ## START_BIT_LEADING_EDGE and FALSE_START (R156) -/

/-- The gap timer of a frame in assembly stops (R11). -/
def Assembly.stopGap (a : Assembly) : Assembly := { a with gap := none }

/-- A leading edge can be taken: the line takes characters and none is in reception (R156). -/
def State.takesEdge (s : State) (p : Port) : Bool := s.delivers p && (s.receiver p).char.isNone

/-- The leading edge of a start bit (R156): the line is HEARING, the quiet time is discarded or the gap timer stopped, and
the character begins. -/
def State.takeStartBit (p : Port) (s : State) : State :=
  let s := s.setAssembler p ((s.assembler p).map Assembly.stopGap)
  (s.hear p).onReceiver p Receiver.beginCharacter

/-- START_BIT_LEADING_EDGE (R156). -/
def execStartBitLeadingEdge (p : Port) (s : State) : Host.Outcome State Fault Refusal :=
  takeEvent (s.takesEdge p) (State.takeStartBit p) s

/-- A false start can be taken: the line is HEARING with a character in reception (R156). -/
def State.takesFalseStart (s : State) (p : Port) : Bool := s.isHearing p && (s.receiver p).char.isSome

/-- The false start (R156): from QUIET or IDLE the line returns there; in a frame the gap timer is loaded again. Nothing
is counted. A false start whose edge was the release of the driver (R163) leaves the line QUIET with quiet time 0 too: R156
does not name it (the model's choice, log entry 17). -/
def State.takeFalseStart (p : Port) (s : State) : State :=
  let s := s.onReceiver p Receiver.dropCharacter
  match s.assembler p with
  | none => s.rest p 0
  | some a => s.setAssembler p (some { a with gap := some (s.receiveSettings p).gapTicks })

/-- FALSE_START (R156). -/
def execFalseStart (p : Port) (s : State) : Host.Outcome State Fault Refusal :=
  takeEvent (s.takesFalseStart p) (State.takeFalseStart p) s

end Sys2Proof.Machine
end

