-- ==== Sys2Proof/Machine/BranchLine.lean ====
section
/-! DEFINITION. Branch ports (Section 6) and the line events of all ports: DATAGRAM_START, DATAGRAM_END,
STOPPED_CHARACTER_END, BREAK, BREAK_END, SETTLING_END, JAM, BREAK_EMISSION_END; and the flush, close, opening and reset of
a branch. -/

namespace Sys2Proof.Machine

/-! ## Flush and close (R111, R112, R105) -/

/-- The flush of one queue entry (R111, R112): a REQUEST becomes an ABORTED fault to T of its route part, attempts 0, and
goes upstream; a DATAGRAM entry has its reference released. -/
def State.flushEntry (b : Branch) (s : State) (n : BufferId) : State :=
  match (s.desc n).kind, (s.desc n).route with
  | .request, some r =>
    (s.buildFault n r.trunkAddress (s.desc n).seq .aborted b.number 0).appendUpstream (.frame n .nothing)
  | _, _ => s.releaseRef n

/-- The flush of a branch in the order of R111: the slot's ABORTED fault, the queue from head to tail, the transmitter's
reference. The assembler is IDLE and its frame dropped; a stored reply's buffer is freed by the slot's abort (R114). -/
def State.flush (b : Branch) (s : State) : State :=
  let s := s.abortSlot b
  let entries := (s.branch b).queue
  let s := s.onBranch b fun p => { p with queue := [], assembler := none }
  let s := entries.foldl (State.flushEntry b) s
  let s := s.releaseRef? (s.branch b).datagram
  s.onBranch b fun p => { p with datagram := none }

/-- The close of a branch that is not CLOSED (R111): the admission, the flush, the line OFF. -/
def State.closeBranch (b : Branch) (s : State) : State :=
  ((s.onBranch b fun p => { p with admission := .closed }).flush b).onBranch b BranchPort.goOff

/-- The opening of a CLOSED branch (R113, R114): the line goes to SETTLING; a character that a close left in transmission
is finished. -/
def State.openBranch (b : Branch) (a : Admission) (s : State) : State :=
  s.onBranch b fun p => { p.goSettling with admission := a }

/-- The reset of an OPEN or PARKED branch (R126): transmission stopped, reception dropped, emission ordered, flush. -/
def State.resetBranch (b : Branch) (s : State) : State := (s.onBranch b BranchPort.orderEmission).flush b

/-! ## DATAGRAM_START (R121) -/

/-- The entry at the head of a branch queue is a DATAGRAM. -/
def State.headIsDatagram (s : State) (b : Branch) : Bool :=
  match (s.branch b).queue with
  | [] => false
  | n :: _ => (s.desc n).kind == .datagram

/-- The line is QUIET and its quiet time has reached the turnaround gap (R121). -/
def BranchPort.turnaroundPassed (p : BranchPort) : Bool :=
  match p.line with
  | .quiet t => decide (p.turnaround * p.ct ≤ t)
  | .off => false
  | .driving _ => false
  | .hearing => false
  | .breakOut _ => false
  | .breakIn _ => false
  | .settling _ => false

/-- A DATAGRAM start is due: a DATAGRAM at the head, the slot EMPTY, the line QUIET for the turnaround gap (R121). -/
def State.datagramStartDue (s : State) (b : Branch) : Bool :=
  s.headIsDatagram b && (s.branch b).slot.isNone && (s.branch b).turnaroundPassed

/-- The DATAGRAM start (R121): the entry leaves the queue for the transmitter, and the line is DRIVING. -/
def State.takeDatagramStart (b : Branch) (s : State) : State :=
  match (s.branch b).queue with
  | [] => s
  | n :: rest =>
    let chars := s.frameChars n
    s.onBranch b fun p => { p.drive chars with queue := rest, datagram := some n }

/-- DATAGRAM_START (R121). On a QUIET line the turnaround gap passes first (log entry 3). -/
def execDatagramStart (b : Branch) (s : State) : Host.Outcome State Fault Refusal :=
  takeEvent ((s.onBranch b BranchPort.awaitQuiet).datagramStartDue b) (State.takeDatagramStart b) s

/-! ## DATAGRAM_END (R122) -/

/-- The end of a DATAGRAM transmission is due: the last stop bit of CHECK LO has been sent (R122). -/
def BranchPort.datagramEndDue (p : BranchPort) : Bool :=
  match p.datagram, p.sending with
  | some _, some t => p.line == .driving .frame && t.finished
  | _, _ => false

/-- The end of a DATAGRAM transmission (R122): FRAMES_OUT, the reference released, the line QUIET with quiet time 0. -/
def State.takeDatagramEnd (b : Branch) (s : State) : State :=
  let s := s.countBranch b .framesOut
  let s := s.releaseRef? (s.branch b).datagram
  s.onBranch b fun p => { p.releaseDriver with datagram := none }

/-- DATAGRAM_END (R122). What is being sent goes on to its end first (log entry 3). -/
def execDatagramEnd (b : Branch) (s : State) : Host.Outcome State Fault Refusal :=
  takeEvent (s.branch b).awaitSending.datagramEndDue (State.takeDatagramEnd b) s

/-! ## STOPPED_CHARACTER_END (R114, R120, R129, R144) -/

/-- The line states in which what a branch sends is a stopped character (R114, R120, R122, R129). -/
def LineState.finishesStopped : LineState → Bool
  | .off => true
  | .settling _ => true
  | .driving .emission => true
  | .driving .settle => true
  | .driving .frame => false
  | .quiet _ => false
  | .hearing => false
  | .breakOut _ => false
  | .breakIn _ => false

/-- The end of a stopped character of a branch is due. -/
def BranchPort.stoppedCharacterEndDue (p : BranchPort) : Bool :=
  match p.sending with
  | some t => p.line.finishesStopped && t.finished
  | none => false

/-- The end of a stopped character of the trunk is due (R144). -/
def TrunkPort.stoppedCharacterEndDue (t : TrunkPort) : Bool :=
  match t.transmitter with
  | .stopping tx => tx.finished
  | .idle => false
  | .spacing _ => false
  | .sending _ _ => false

/-- The end of a stopped character is due at a port. -/
def State.stoppedCharacterEndDue (s : State) : Port → Bool
  | .trunk => s.trunk.stoppedCharacterEndDue
  | .branch b => (s.branch b).stoppedCharacterEndDue

/-- What a port is sending goes on to its end (log entry 3). -/
def State.awaitSending (p : Port) (s : State) : State :=
  match p with
  | .trunk => s.onTrunk TrunkPort.awaitTransmitter
  | .branch b => s.onBranch b BranchPort.awaitSending

/-- The transmitter goes to SPACING, in ct of the transmit settings as they stand (R141, R144). -/
def TrunkPort.space (t : TrunkPort) : TrunkPort := { t with transmitter := .spacing t.txSettings.ctCycles }

/-- The end of a character that a stop left in progress: the trunk goes to SPACING (R144); a branch goes on to the state
its stop ordered (R114, R120, R129). -/
def State.takeStoppedCharacterEnd (p : Port) (s : State) : State :=
  match p with
  | .trunk => s.onTrunk TrunkPort.space
  | .branch b => s.onBranch b BranchPort.stoppedCharacterEnd

/-- STOPPED_CHARACTER_END (R114, R144). The character goes on to its end first (log entry 3). -/
def execStoppedCharacterEnd (p : Port) (s : State) : Host.Outcome State Fault Refusal :=
  takeEvent ((s.awaitSending p).stoppedCharacterEndDue p) (State.takeStoppedCharacterEnd p) s

/-! ## BREAK (R117, R61) -/

/-- A break can be heard on a branch: QUIET, HEARING or SETTLING with the receiver not blanked (R117, R163). -/
def BranchPort.takesBreak (p : BranchPort) : Bool := p.line.hearsBreak && p.sending.isNone

/-- A frame in assembly is abandoned for a break (R14): the slot unit is told of the break itself, not of a bad reply. -/
def State.breakFrame (p : Port) (s : State) : State :=
  match s.assembler p with
  | none => s
  | some a => s.abandonFrame p a

/-- A break heard on a branch (R117): BREAKS, the frame in assembly, the slot, the line to BREAK_IN. -/
def State.takeBreak (b : Branch) (s : State) : State :=
  let s := s.countBranch b .breaks
  let s := s.breakFrame (.branch b)
  let s := s.breakSlot b
  s.onBranch b fun p => { p with line := .breakIn 0, receiver := p.receiver.breakTaken }

/-- BREAK (R117). -/
def execBreakHeard (b : Branch) (s : State) : Host.Outcome State Fault Refusal :=
  takeEvent (s.branch b).takesBreak (State.takeBreak b) s

/-! ## BREAK_END (R118, R145) -/

/-- The line of a port is in BREAK_IN. -/
def State.isBreakIn (s : State) : Port → Bool
  | .trunk => s.trunk.line == .breakIn
  | .branch b =>
    match (s.branch b).line with
    | .breakIn _ => true
    | .off => false
    | .quiet _ => false
    | .driving _ => false
    | .hearing => false
    | .breakOut _ => false
    | .settling _ => false

/-- A line goes to SETTLING (R118, R145). -/
def State.settle (p : Port) (s : State) : State :=
  match p with
  | .trunk => s.onTrunk TrunkPort.goSettling
  | .branch b => s.onBranch b BranchPort.goSettling

/-- BREAK_END (R118, R145): a line in BREAK_IN is taken at mark. -/
def execBreakEnd (p : Port) (s : State) : Host.Outcome State Fault Refusal := takeEvent (s.isBreakIn p) (State.settle p) s

/-! ## SETTLING_END (R162, R119) -/

/-- A port is settling, with its receiver not blanked by a character a close left in transmission (R162, R114). -/
def State.isSettling (s : State) : Port → Bool
  | .trunk =>
    match s.trunk.line with
    | .settling _ => true
    | .idle => false
    | .hearing => false
    | .breakIn => false
  | .branch b =>
    match (s.branch b).line with
    | .settling _ => (s.branch b).sending.isNone
    | .off => false
    | .quiet _ => false
    | .driving _ => false
    | .hearing => false
    | .breakOut _ => false
    | .breakIn _ => false

/-- The end of settling (R162): a branch is QUIET with quiet time 0, the trunk IDLE. The pin has been at mark for 1 ct. -/
def State.takeSettlingEnd (p : Port) (s : State) : State :=
  match p with
  | .trunk => s.onTrunk fun t => { t with line := .idle, receiver := Receiver.fresh }
  | .branch b => s.onBranch b fun q => { q with line := .quiet 0, receiver := Receiver.fresh }

/-- SETTLING_END (R162). -/
def execSettlingEnd (p : Port) (s : State) : Host.Outcome State Fault Refusal :=
  takeEvent (s.isSettling p) (State.takeSettlingEnd p) s

/-! ## JAM (R124) -/

/-- A jam is due: the jam timer of a line in BREAK_IN has reached 256 ct (R124). -/
def BranchPort.jamDue (p : BranchPort) : Bool :=
  match p.line with
  | .breakIn j => decide (256 * p.ct ≤ j)
  | .off => false
  | .quiet _ => false
  | .driving _ => false
  | .hearing => false
  | .breakOut _ => false
  | .settling _ => false

/-- The jam (R124): JAMS is counted and the branch closes. -/
def State.takeJam (b : Branch) (s : State) : State := (s.countBranch b .jams).closeBranch b

/-- JAM (R124). On a line in BREAK_IN the jam timer runs to 256 ct first (log entry 3). -/
def execJam (b : Branch) (s : State) : Host.Outcome State Fault Refusal :=
  takeEvent (s.branch b).awaitJam.jamDue (State.takeJam b) s

/-! ## BREAK_EMISSION_END (R120, R161) -/

/-- The end of an emission is due (R161). -/
def BranchPort.breakEmissionEndDue (p : BranchPort) : Bool := p.line == .breakOut 0

/-- BREAK_EMISSION_END (R120): the driver is released and the line goes to SETTLING. The emission runs to its 3 ct first
(log entry 3). -/
def execBreakEmissionEnd (b : Branch) (s : State) : Host.Outcome State Fault Refusal :=
  takeEvent (s.branch b).awaitEmission.breakEmissionEndDue (State.onBranch b BranchPort.goSettling) s

end Sys2Proof.Machine
end

