-- ==== Sys2Proof/Machine/TrunkLineReset.lean ====
section
/-! DEFINITION. The trunk transmitter's events SPACING_END and TRANSMISSION_END, and the TRUNK_LINE_RESET (Section 7). -/

namespace Sys2Proof.Machine

/-! ## SPACING_END (R138) -/

/-- The spacing of the trunk transmitter has run out. -/
def TrunkPort.spacingEndDue (t : TrunkPort) : Bool := t.transmitter == .spacing 0

/-- The spacing runs out (R138): the next item is started in the same event, or the transmitter is IDLE. -/
def State.takeSpacingEnd (s : State) : State := (s.onTrunk fun t => { t with transmitter := .idle }).startIfIdle

/-- SPACING_END (R138). A running spacing runs out first (log entry 3). -/
def execSpacingEnd (s : State) : Host.Outcome State Fault Refusal :=
  takeEvent s.trunk.awaitTransmitter.spacingEndDue State.takeSpacingEnd s

/-! ## TRANSMISSION_END (R141) -/

/-- The end of a trunk transmission is due: the last stop bit of CHECK LO has been sent (R141). -/
def TrunkPort.transmissionEndDue (t : TrunkPort) : Bool :=
  match t.transmitter with
  | .sending _ tx => tx.finished
  | .idle => false
  | .spacing _ => false
  | .stopping _ => false

/-- An item is released: a buffer to the tail of the free list, a refusal record from the store (R141). -/
def State.releaseItem (item : UpItem) (s : State) : State :=
  match item with
  | .frame n _ => s.free n
  | .refusal r => s.onTrunk fun t => { t with refusals := t.refusals.erase r }

/-- What an item carries takes effect (R141 steps 3 and 4). -/
def State.carriedTakesEffect (item : UpItem) (s : State) : State :=
  match item with
  | .frame _ .nothing => s
  | .frame _ .setting => s.settingTakesEffect
  | .frame _ .restart => s.restartTakesEffect
  | .refusal _ => s

/-- The end of a trunk transmission (R141): FRAMES_OUT, the item's release, what it carries, then SPACING. -/
def State.takeTransmissionEnd (s : State) : State :=
  match s.trunk.transmitter with
  | .sending item _ =>
    let s := s.countTrunk .framesOut
    let s := s.onTrunk TrunkPort.space
    let s := s.releaseItem item
    let s := s.carriedTakesEffect item
    s.onTrunk TrunkPort.space
  | .idle => s
  | .spacing _ => s
  | .stopping _ => s

/-- TRANSMISSION_END (R141). What is being sent goes on to its end first (log entry 3). -/
def execTransmissionEnd (s : State) : Host.Outcome State Fault Refusal :=
  takeEvent s.trunk.awaitTransmitter.transmissionEndDue State.takeTransmissionEnd s

/-! ## TRUNK_LINE_RESET (R147 to R150) -/

/-- The buffer of an upstream item, or of the item being sent, is released; a refusal record goes with its store (R136,
R144). -/
def State.dropItem (s : State) (item : UpItem) : State :=
  match item with
  | .frame n _ => s.free n
  | .refusal _ => s

/-- The item that the trunk transmitter is sending. -/
def TrunkTransmitter.items : TrunkTransmitter → List UpItem
  | .sending item _ => [item]
  | .idle => []
  | .spacing _ => []
  | .stopping _ => []

/-- The trunk side at a trunk line reset (R148): the frame in assembly is abandoned, the transmission stopped and its item
released, the upstream queue and the refusal store emptied. -/
def State.resetTrunkSide (s : State) : State :=
  let s := s.breakFrame .trunk
  let items := s.trunk.transmitter.items ++ s.trunk.upstream
  let s := items.foldl State.dropItem s
  s.onTrunk fun t => { t with transmitter := t.transmitter.stop, upstream := [], refusals := [] }

/-- A branch at a trunk line reset (R128, R66, R104): the transmitter's reference, the slot and the queue are released in
this order, without answers or counts, and the line is ordered to emit a break. -/
def State.resetBranchSilently (s : State) (b : Branch) : State :=
  let s := s.releaseRef? (s.branch b).datagram
  let s := s.silentClose b
  let s := (s.branch b).queue.foldl (fun s n => s.releaseRef n) s
  s.onBranch b fun p => { p.orderEmission with queue := [], datagram := none, assembler := none }

/-- The agent at a trunk line reset (R149, R196): the waiting command is discarded, and the response of the executing one
is void. -/
def State.voidAgent (s : State) : State :=
  let s := (s.agent.queue.drop 1).foldl (fun s n => s.free n) s
  s.setAgent { s.agent with queue := s.agent.queue.take 1, responseVoid := s.agent.responseVoid || !s.agent.queue.isEmpty }

/-- A branch with its counters 0 and its summary flag clear (R207). -/
def BranchPort.zeroBank (p : BranchPort) : BranchPort := { p with counters := CounterBank.zero 16 }

/-- A pending restart takes effect in the event of a trunk line reset (R150): counters and flags zeroed, the free list
rebuilt but for the buffer of an executing command, the flag cleared. The rest is the trunk line reset's. -/
def State.restartAtReset (s : State) : State :=
  if s.agent.restartPending then
    let s := { s with branches := s.branches.map BranchPort.zeroBank }
    let s := s.onTrunk fun t => { t with counters := CounterBank.zero 13 }
    let s := s.setPool (s.pool.restarted s.agent.queue.head?)
    s.setAgent { s.agent with restartPending := false }
  else s

/-- A trunk line reset (R147). -/
def State.takeTrunkLineReset (s : State) : State :=
  let s := s.resetTrunkSide
  let s := Branch.all.foldl State.resetBranchSilently s
  let s := s.voidAgent
  let s := s.setPool { s.pool with reserved := 0, waiting := [] }
  let s := s.restartAtReset
  let s := s.countTrunk .breaks
  let s := s.onTrunk fun t => { t with line := .breakIn, receiver := t.receiver.breakTaken }
  s.settingEnds

/-- TRUNK_LINE_RESET (R147): TRX has been at space for 2 ct, from IDLE, HEARING or SETTLING. -/
def execTrunkLineReset (s : State) : Host.Outcome State Fault Refusal :=
  takeEvent s.trunk.line.hearsBreak State.takeTrunkLineReset s

end Sys2Proof.Machine
end

