-- ==== Sys2Proof/Machine/Agent.lean ====
section
/-! DEFINITION. The management agent (Section 9): the completion of a command (R171 to R176, R196) and the meaning of each
command, with the data of its response (R214). -/

namespace Sys2Proof.Machine

/-! ## Completion (R171 to R176) -/

/-- What the completion of a command comes to: the result and data, the effect on the part where the result is DONE, and
what the response carries. -/
structure Completion where
  verdict : Verdict
  effect : State → State
  carry : Carry

/-- A completion without effect: any result but DONE (R173), and a command that only reports. -/
def Completion.only (v : Verdict) : Completion := { verdict := v, effect := id, carry := .nothing }

/-- A DONE completion with an effect and a response that carries nothing. -/
def Completion.done (data : List Byte) (effect : State → State) : Completion :=
  { verdict := .done data, effect := effect, carry := .nothing }

/-- BAD_OPERAND. -/
def Completion.bad : Completion := Completion.only .bad

/-- NOT_NOW. -/
def Completion.notNow : Completion := Completion.only .notNow

/-- The code of the command in a buffer (R170). -/
def State.codeOf (s : State) (n : BufferId) : Byte := commandCode (s.chars n)

/-- The operands of the command in a buffer (R170). -/
def State.operandsOf (s : State) (n : BufferId) : List Byte := commandOperands (s.chars n)

/-- The table row of the command in a buffer. -/
def State.commandIn (s : State) (n : BufferId) : Command := commandOf (s.codeOf n) (s.operandsOf n)

/-- The executing command is of this row (R171). -/
def State.executes (s : State) (c : Command) : Bool :=
  match s.agent.queue with
  | [] => false
  | n :: _ => s.commandIn n == c

/-- A response is built for the executing command: it is a REQUEST and its response is not void (R174, R175, R196). -/
def State.answers (s : State) (n : BufferId) : Bool := (s.desc n).kind == .request && !s.agent.responseVoid

/-- The response is built in the command's own buffer and appended upstream with its mark (R174). -/
def State.respond (n : BufferId) (v : Verdict) (carry : Carry) (s : State) : State :=
  let x := s.buffer n
  let chars := responseFrame (charAt x.chars 0) x.desc.seq (s.codeOf n) v
  let desc := { x.desc with length := 7 + v.data.length, kind := .reply, refs := 1, route := none }
  (State.setBuffer n { chars := chars, desc := desc } s).appendUpstream (.frame n carry)

/-- What a command carries takes effect at its completion, where no response carries it (R175, R187, R193, R196). -/
def State.takesEffectNow (c : Carry) (s : State) : State :=
  match c with
  | .nothing => s
  | .setting => s.settingTakesEffect
  | .restart => s.restartTakesEffect

/-- A RESTART answered by a response leaves the restart pending (R192). -/
def State.leavePending (c : Carry) (s : State) : State :=
  match c with
  | .nothing => s
  | .setting => s
  | .restart => s.setAgent { s.agent with restartPending := true }

/-- The completed command leaves the queue, the void flag is cleared, and the waiting command begins (R171, R196). -/
def State.nextCommand (s : State) : State :=
  (s.setAgent { s.agent with queue := s.agent.queue.drop 1, responseVoid := false }).beginCommand

/-- The end of a command's completion: its answer, or its buffer's release with what it carries taking effect. -/
def State.finish (n : BufferId) (x : Completion) (s : State) : State :=
  if s.answers n then (s.respond n x.verdict x.carry).leavePending x.carry
  else (s.free n).takesEffectNow x.carry

/-- The completion of the executing command with this outcome: effect, MGMT_COMMANDS (R176), answer, next command. The
order of these in the one event is the model's where the spec gives none: the buffers that a flush releases join the free
list before the buffer of a command that is not answered (log entry 14), and the next command is timed at the settings that
the completion leaves (log entry 11). -/
def State.complete (n : BufferId) (x : Completion) (s : State) : State :=
  ((((x.effect s).countTrunk .mgmtCommands).finish n x).nextCommand)

/-- The tests of R173 in their order: the code, the operand count, then those of the command itself. -/
def Command.judge (c : Command) (ops : List Byte) (own : Completion) : Completion :=
  match c with
  | .unknown => Completion.only { result := .unknown, data := [] }
  | c => if c.takes ops.length then own else Completion.only { result := .wrongLength, data := [] }

/-- The completion event of the executing command when it is of row c; `own` gives the command's own tests, data and
effect on its operands. -/
def State.completeAs (c : Command) (own : State → List Byte → Completion) (s : State) : State :=
  match s.agent.queue with
  | [] => s
  | n :: _ => s.complete n (c.judge (s.operandsOf n) (own s (s.operandsOf n)))

/-- A completion as an event: possible while a command of this row is executing (R172). -/
def execCommand (c : Command) (own : State → List Byte → Completion) (s : State) : Host.Outcome State Fault Refusal :=
  takeEvent (s.executes c) (State.completeAs c own) s

/-! ## IDENTIFY (R177), ECHO (R188), an unknown command (R173) -/

/-- The data of IDENTIFY (R177, R214). -/
def State.identity (s : State) : List Byte :=
  [hiByte Config.partCode, loByte Config.partCode, Config.revision, Config.branchCount, Config.bufferCount, Config.tableSize,
    hiByte s.map.generation, loByte s.map.generation, s.agent.coupler]

/-- IDENTIFY changes nothing. -/
def identifyCompletion (s : State) (_ops : List Byte) : Completion := Completion.only (.done s.identity)

/-- IDENTIFY (R177). -/
def execIdentify (s : State) : Host.Outcome State Fault Refusal := execCommand .identify identifyCompletion s

/-- ECHO returns its operands. -/
def echoCompletion (_s : State) (ops : List Byte) : Completion := Completion.only (.done ops)

/-- ECHO (R188). -/
def execEcho (s : State) : Host.Outcome State Fault Refusal := execCommand .echo echoCompletion s

/-- An unknown command has no tests of its own (R173). -/
def unknownCompletion (_s : State) (_ops : List Byte) : Completion := Completion.only { result := .unknown, data := [] }

/-- UNKNOWN_COMMAND (R173). -/
def execUnknownCommand (s : State) : Host.Outcome State Fault Refusal := execCommand .unknown unknownCompletion s

/-! ## READ_STATUS (R178, R208, R209) -/

/-- The summary flags in one character: bit p is the flag of port p (R214). -/
def State.flagBits (s : State) : Byte :=
  byteOf (s.trunk.counters.flag.toNat + 2 * (s.branch .b1).counters.flag.toNat + 4 * (s.branch .b2).counters.flag.toNat
    + 8 * (s.branch .b3).counters.flag.toNat + 16 * (s.branch .b4).counters.flag.toNat)

/-- The pending indications: bit 0 restart pending, bit 1 trunk setting pending (R214). -/
def State.pendingBits (s : State) : Byte :=
  byteOf (s.agent.restartPending.toNat + 2 * s.agent.pendingSetting.isSome.toNat)

/-- The device block of READ_STATUS (R208, R214). -/
def State.deviceBlock (s : State) : List Byte :=
  [s.flagBits, byteOf s.freeCount, byteOf s.pool.reserved, byteOf s.trunk.upstream.length, byteOf s.trunk.refusals.length,
    hiByte s.map.generation, loByte s.map.generation, s.agent.coupler, s.pendingBits]

/-- The attempts of a slot; 0 for an EMPTY slot (R209). -/
def slotAttempts : Option Slot → Nat
  | none => 0
  | some x => x.attempts

/-- The block of one branch in READ_STATUS (R209, R214). -/
def BranchPort.statusBlock (p : BranchPort) : List Byte :=
  [p.admission.code, p.line.code, slotCode p.slot, byteOf (slotAttempts p.slot), byteOf p.queue.length]

/-- The data of READ_STATUS: 29 characters (R214). -/
def State.status (s : State) : List Byte := s.deviceBlock ++ Branch.all.flatMap fun b => (s.branch b).statusBlock

/-- A branch with its summary flag cleared. -/
def BranchPort.clearFlag (p : BranchPort) : BranchPort := { p with counters := p.counters.clearFlag }

/-- Every summary flag is cleared (R178, R206). -/
def State.clearFlags (s : State) : State :=
  ({ s with branches := s.branches.map BranchPort.clearFlag }).onTrunk fun t => { t with counters := t.counters.clearFlag }

/-- READ_STATUS reports and clears. -/
def readStatusCompletion (s : State) (_ops : List Byte) : Completion := Completion.done s.status State.clearFlags

/-- READ_STATUS (R178). -/
def execReadStatus (s : State) : Host.Outcome State Fault Refusal := execCommand .readStatus readStatusCompletion s

/-! ## READ_COUNTERS (R179, R205) -/

/-- A bank's counters, two characters each, in the order of R199 (R214). -/
def CounterBank.report {n : Nat} (c : CounterBank n) : List Byte := c.counts.toList.flatMap fun w => [hiByte w, loByte w]

/-- The counters of a port as READ_COUNTERS reports them. -/
def State.counterReport (s : State) : Port → List Byte
  | .trunk => s.trunk.counters.report
  | .branch b => (s.branch b).counters.report

/-- The number of a port. -/
def portNumber : Port → Nat
  | .trunk => 0
  | .branch b => b.number

/-- Every counter of a port becomes 0; its summary flag stays (R179, R205). -/
def State.zeroCounters (p : Port) (s : State) : State :=
  match p with
  | .trunk => s.onTrunk fun t => { t with counters := t.counters.zeroCounts }
  | .branch b => s.onBranch b fun q => { q with counters := q.counters.zeroCounts }

/-- READ_COUNTERS: port, clear. -/
def readCountersCompletion (s : State) (ops : List Byte) : Completion :=
  match readPort (charAt ops 0), readFlag (charAt ops 1) with
  | some p, some clear =>
    Completion.done (byteOf (portNumber p) :: s.counterReport p) (if clear then State.zeroCounters p else id)
  | _, _ => Completion.bad

/-- READ_COUNTERS (R179). -/
def execReadCounters (s : State) : Host.Outcome State Fault Refusal := execCommand .readCounters readCountersCompletion s

/-! ## The station map commands (R26 to R32, R180, R181) -/

/-- The table that a selector names: 00h ACTIVE, 01h WORKING (R212). -/
def StationMap.table? (m : StationMap) (c : Byte) : Option Table :=
  if c = 0 then some m.active else if c = 1 then some m.working else none

/-- READ_ENTRY: table selector, first index, count (R29). -/
def readEntryCompletion (s : State) (ops : List Byte) : Completion :=
  match s.map.table? (charAt ops 0) with
  | none => Completion.bad
  | some t =>
    let first := (charAt ops 1).toNat
    let count := (charAt ops 2).toNat
    if 1 ≤ count ∧ count ≤ 4 ∧ first + count ≤ 16 then
      Completion.only (.done (ops.take 3 ++ ((t.toList.drop first).take count).flatMap RouteEntry.encode))
    else Completion.bad

/-- READ_ENTRY (R29). -/
def execReadEntry (s : State) : Host.Outcome State Fault Refusal := execCommand .readEntry readEntryCompletion s

/-- An entry of WORKING is replaced. -/
def State.setWorking (i : Fin 16) (e : RouteEntry) (s : State) : State :=
  s.setMap { s.map with working := s.map.working.set i e }

/-- WRITE_ENTRY: index, TB, k, branch, LB, retries, R, admit (R26). -/
def writeEntryCompletion (_s : State) (ops : List Byte) : Completion :=
  match readIndex (charAt ops 0), readEntryOperands ops with
  | some i, some e => Completion.done [] (State.setWorking i e)
  | _, _ => Completion.bad

/-- WRITE_ENTRY (R26). -/
def execWriteEntry (s : State) : Host.Outcome State Fault Refusal := execCommand .writeEntry writeEntryCompletion s

/-- An entry of WORKING becomes empty and keeps its other fields (R27). -/
def State.clearWorking (i : Fin 16) (s : State) : State := s.setWorking i { s.map.working.get i with valid := false }

/-- CLEAR_ENTRY: index (R27). -/
def clearEntryCompletion (_s : State) (ops : List Byte) : Completion :=
  match readIndex (charAt ops 0) with
  | some i => Completion.done [] (State.clearWorking i)
  | none => Completion.bad

/-- CLEAR_ENTRY (R27). -/
def execClearEntry (s : State) : Host.Outcome State Fault Refusal := execCommand .clearEntry clearEntryCompletion s

/-- ACTIVE is copied into WORKING (R28). -/
def State.loadWorking (s : State) : State := s.setMap { s.map with working := s.map.active }

/-- LOAD_WORKING has no operands. -/
def loadWorkingCompletion (_s : State) (_ops : List Byte) : Completion := Completion.done [] State.loadWorking

/-- LOAD_WORKING (R28). -/
def execLoadWorking (s : State) : Host.Outcome State Fault Refusal := execCommand .loadWorking loadWorkingCompletion s

/-- The swap of a successful COMMIT (R32). -/
def State.swapTables (s : State) : State := s.setMap s.map.swap

/-- The data of a REJECTED COMMIT: failing index, reason code, other index (R31). -/
def Rejection.data (r : Rejection) : List Byte := [byteOf r.index, r.reason.code, r.other]

/-- COMMIT: validation, then the swap, or the first failure (R30 to R32). -/
def commitCompletion (s : State) (_ops : List Byte) : Completion :=
  match s.map.validate s.agent.coupler with
  | some r => Completion.only { result := .rejected, data := r.data }
  | none => Completion.done [hiByte (s.map.generation + 1), loByte (s.map.generation + 1)] State.swapTables

/-- COMMIT (R30, R181). -/
def execCommit (s : State) : Host.Outcome State Fault Refusal := execCommand .commit commitCompletion s

/-! ## The branch commands (R182 to R185) -/

/-- The effect of SET_ADMISSION (R110, R111, R113). -/
def State.setAdmission (b : Branch) (a : Admission) (s : State) : State :=
  if (s.branch b).admission = a then s
  else if a = .closed then s.closeBranch b
  else if (s.branch b).admission = .closed then s.openBranch b a
  else s.onBranch b fun p => { p with admission := a }

/-- SET_ADMISSION: branch, state. -/
def setAdmissionCompletion (_s : State) (ops : List Byte) : Completion :=
  match readBranch (charAt ops 0), readAdmission (charAt ops 1) with
  | some b, some a => Completion.done [] (State.setAdmission b a)
  | _, _ => Completion.bad

/-- SET_ADMISSION (R182). -/
def execSetAdmission (s : State) : Host.Outcome State Fault Refusal := execCommand .setAdmission setAdmissionCompletion s

/-- SET_LINE for a branch: port, N hi, N lo, format, gap limit, turnaround (R185, R130). The cycles of REFCLK counted since
the last sample tick are kept and compared with the new N: the spec is silent on them (the model's choice, log entry 5). -/
def setLineCompletion (s : State) (ops : List Byte) : Completion :=
  match readBranch (charAt ops 0), readLineSettings ops, readRange 1 15 (charAt ops 5) with
  | some b, some ls, some t =>
    if (s.branch b).admission = .closed then
      Completion.done [] (State.onBranch b fun p => { p with settings := ls, turnaround := t })
    else Completion.notNow
  | _, _, _ => Completion.bad

/-- SET_LINE (R185). -/
def execSetLine (s : State) : Host.Outcome State Fault Refusal := execCommand .setLine setLineCompletion s

/-- SET_POLICY: branch, queue limit, grant level, broadcast (R183, R131). -/
def setPolicyCompletion (_s : State) (ops : List Byte) : Completion :=
  match readBranch (charAt ops 0), readRange 1 16 (charAt ops 1), readRange 1 7 (charAt ops 2), readFlag (charAt ops 3) with
  | some b, some q, some g, some o =>
    Completion.done [] (State.onBranch b fun p => { p with queueLimit := q, grantLevel := g, broadcast := o })
  | _, _, _, _ => Completion.bad

/-- SET_POLICY (R183). -/
def execSetPolicy (s : State) : Host.Outcome State Fault Refusal := execCommand .setPolicy setPolicyCompletion s

/-- The effect of RESET_BRANCH (R126, R127): nothing on a CLOSED branch. -/
def State.resetUnlessClosed (b : Branch) (s : State) : State :=
  if (s.branch b).admission = .closed then s else s.resetBranch b

/-- RESET_BRANCH: branch. -/
def resetBranchCompletion (_s : State) (ops : List Byte) : Completion :=
  match readBranch (charAt ops 0) with
  | some b => Completion.done [] (State.resetUnlessClosed b)
  | none => Completion.bad

/-- RESET_BRANCH (R184). -/
def execResetBranch (s : State) : Host.Outcome State Fault Refusal := execCommand .resetBranch resetBranchCompletion s

/-! ## SET_LINE for port 0 (R186) -/

/-- A trunk setting becomes pending, awaiting its response (R186). -/
def State.pendSetting (ls : LineSettings) (s : State) : State :=
  s.setAgent { s.agent with pendingSetting := some { settings := ls, phase := .awaiting } }

/-- SET_LINE for port 0: the turnaround operand is not examined; a setting already pending gives NOT_NOW (R186). -/
def trunkSetLineCompletion (s : State) (ops : List Byte) : Completion :=
  match readLineSettings ops with
  | some ls =>
    if s.agent.pendingSetting.isSome then Completion.notNow
    else { verdict := .done [], effect := State.pendSetting ls, carry := .setting }
  | none => Completion.bad

/-- SET_LINE for port 0 (R186, R187). -/
def execTrunkSetLine (s : State) : Host.Outcome State Fault Refusal := execCommand .trunkSetLine trunkSetLineCompletion s

/-! ## SET_ADDRESS (R190) -/

/-- The coupler address is replaced. -/
def State.setCoupler (a : Byte) (s : State) : State := s.setAgent { s.agent with coupler := a }

/-- SET_ADDRESS: the new address, refused at 00h, FFh and inside a trunk window of ACTIVE. -/
def setAddressCompletion (s : State) (ops : List Byte) : Completion :=
  let a := charAt ops 0
  if a = 0x00 ∨ a = 0xFF ∨ s.map.routes a = true then Completion.bad
  else Completion.done [s.agent.coupler] (State.setCoupler a)

/-- SET_ADDRESS (R190). -/
def execSetAddress (s : State) : Host.Outcome State Fault Refusal := execCommand .setAddress setAddressCompletion s

/-! ## RESTART (R192) -/

/-- RESTART: refused while one is pending; otherwise it is carried by the response, or takes effect at once. -/
def restartCompletion (s : State) (_ops : List Byte) : Completion :=
  if s.agent.restartPending then Completion.notNow
  else { verdict := .done [], effect := id, carry := .restart }

/-- RESTART (R192). -/
def execRestart (s : State) : Host.Outcome State Fault Refusal := execCommand .restart restartCompletion s

end Sys2Proof.Machine
end

