-- ==== Sys2Proof/Machine/Reset.lean ====
section
/-! DEFINITION. The reset input (R167, R168): POWER_ON_RESET at the release of RST#, and RST_LOW. -/

namespace Sys2Proof.Machine

/-- POWER_ON_RESET (R167, R168): every block takes its power-on values, with the straps sampled. -/
def execPowerOnReset (sa : BitVec 3) (tr : BitVec 2) (s : State) : Host.Outcome State Fault Refusal :=
  .next (State.powerOn sa tr s)

/-- A branch while RST# is low (R167): no character, break, timer or frame exists in it, and nothing is driven. -/
def BranchPort.heldLow (p : BranchPort) : BranchPort :=
  { p.clearTraffic with line := if p.line.isOff then .off else .settling 0, sending := none, receiver := Receiver.fresh, phase := 0 }

/-- The trunk while RST# is low (R167). -/
def TrunkPort.heldLow (t : TrunkPort) : TrunkPort :=
  { t with line := .settling 0, assembler := none, receiver := Receiver.fresh, phase := 0, transmitter := .idle,
           upstream := [], refusals := [] }

/-- The agent while RST# is low (R167): no command is in it. -/
def Agent.heldLow (a : Agent) : Agent :=
  { a with queue := [], restartPending := false, responseVoid := false, pendingSetting := none, left := 0 }

/-- The part while RST# is low (R167; log entry 7). -/
def State.heldLow (s : State) : State :=
  { s with
    pool := Pool.initial
    branches := s.branches.map BranchPort.heldLow
    trunk := s.trunk.heldLow
    agent := s.agent.heldLow
    rstLow := true }

/-- RST_LOW (R167): transmit pins return to mark, drivers are released, and no event is taken until POWER_ON_RESET. -/
def execRstLow (s : State) : Host.Outcome State Fault Refusal := .next s.heldLow

end Sys2Proof.Machine
end

