-- ==== Sys2Proof/Machine/Dispatch.lean ====
section
/-! DEFINITION. One meaning for each command. -/

namespace Sys2Proof.Machine

def exec (i : Instr) (s : State) : Host.Outcome State Fault Refusal :=
  match i with
  | .powerOnReset sa tr => Sys2Proof.Machine.execPowerOnReset sa tr s
  | .rstLow => Sys2Proof.Machine.execRstLow s
  | .addressCharacter p v noisy damaged => Sys2Proof.Machine.execAddressCharacter p v noisy damaged s
  | .dataCharacter p v noisy damaged => Sys2Proof.Machine.execDataCharacter p v noisy damaged s
  | .gapTimerExpiry p => Sys2Proof.Machine.execGapTimerExpiry p s
  | .grant => Sys2Proof.Machine.execGrant s
  | .sendStart b => Sys2Proof.Machine.execSendStart b s
  | .endOfTransmission b => Sys2Proof.Machine.execEndOfTransmission b s
  | .replyTimerExpiry b => Sys2Proof.Machine.execReplyTimerExpiry b s
  | .datagramStart b => Sys2Proof.Machine.execDatagramStart b s
  | .datagramEnd b => Sys2Proof.Machine.execDatagramEnd b s
  | .stoppedCharacterEnd p => Sys2Proof.Machine.execStoppedCharacterEnd p s
  | .breakHeard b => Sys2Proof.Machine.execBreakHeard b s
  | .breakEnd p => Sys2Proof.Machine.execBreakEnd p s
  | .settlingEnd p => Sys2Proof.Machine.execSettlingEnd p s
  | .jam b => Sys2Proof.Machine.execJam b s
  | .breakEmissionEnd b => Sys2Proof.Machine.execBreakEmissionEnd b s
  | .trunkLineReset => Sys2Proof.Machine.execTrunkLineReset s
  | .spacingEnd => Sys2Proof.Machine.execSpacingEnd s
  | .transmissionEnd => Sys2Proof.Machine.execTransmissionEnd s
  | .identify => Sys2Proof.Machine.execIdentify s
  | .readStatus => Sys2Proof.Machine.execReadStatus s
  | .readCounters => Sys2Proof.Machine.execReadCounters s
  | .readEntry => Sys2Proof.Machine.execReadEntry s
  | .writeEntry => Sys2Proof.Machine.execWriteEntry s
  | .clearEntry => Sys2Proof.Machine.execClearEntry s
  | .loadWorking => Sys2Proof.Machine.execLoadWorking s
  | .commit => Sys2Proof.Machine.execCommit s
  | .setAdmission => Sys2Proof.Machine.execSetAdmission s
  | .setLine => Sys2Proof.Machine.execSetLine s
  | .trunkSetLine => Sys2Proof.Machine.execTrunkSetLine s
  | .setPolicy => Sys2Proof.Machine.execSetPolicy s
  | .resetBranch => Sys2Proof.Machine.execResetBranch s
  | .setAddress => Sys2Proof.Machine.execSetAddress s
  | .restart => Sys2Proof.Machine.execRestart s
  | .echo => Sys2Proof.Machine.execEcho s
  | .unknownCommand => Sys2Proof.Machine.execUnknownCommand s
  | .startBitLeadingEdge p => Sys2Proof.Machine.execStartBitLeadingEdge p s
  | .falseStart p => Sys2Proof.Machine.execFalseStart p s

end Sys2Proof.Machine
end

