-- ==== Sys2Proof/Machine/Clock.lean ====
section
/-! DEFINITION. What happens when no command is waiting: the sample ticks of the five ports (R154 to R162), the timers that
count in them (R155), and the events of the part that are due (log entries 3 and 4). -/

namespace Sys2Proof.Machine

/-! ## One sample tick of a branch (R154, R155) -/

/-- The receive side of a branch at a sample tick with the pin at level l: blanked while the driver is enabled, and for
the end of a stopped character (R163); reading nothing on an OFF line (R164); else watching (section 8.3). -/
def BranchPort.tickReceiver (l : Level) (p : BranchPort) : Receiver :=
  if p.driverEnabled then Receiver.blanked l
  else if p.line.isOff then Receiver.fresh
  else p.receiver.sample p.line.delivers (2 * p.ct) l

/-- The timer of a branch line state at a sample tick with the pin at level l: quiet time up to 15 ct (R116), jam timer up
to 256 ct (R118), what is left of an emission (R161), settling count (R162). -/
def BranchPort.tickLine (l : Level) (p : BranchPort) : LineState :=
  match p.line with
  | .quiet t => .quiet (min (t + 1) (15 * p.ct))
  | .breakIn j => .breakIn (min (j + 1) (256 * p.ct))
  | .breakOut k => .breakOut (k - 1)
  | .settling c => .settling (if p.sending.isNone && l == .mark then min (c + 1) p.ct else 0)
  | .off => .off
  | .driving a => .driving a
  | .hearing => .hearing

/-- The reply timer counts down while the slot is WAITING (R48). -/
def SlotPhase.tick : SlotPhase → SlotPhase
  | .waiting t => .waiting (t - 1)
  | .ready => .ready
  | .sending => .sending
  | .receiving n f => .receiving n f

/-- A running gap timer counts down (R11). -/
def Assembly.tick (a : Assembly) : Assembly := { a with gap := a.gap.map (· - 1) }

/-- One sample tick of a branch: the pin is read once (section 8.3). -/
def BranchPort.tick (p : BranchPort) : BranchPort :=
  let l := p.wave.headD .mark
  { p with
    wave := p.wave.tail
    phase := 0
    receiver := p.tickReceiver l
    line := p.tickLine l
    slot := p.slot.map fun x => { x with phase := x.phase.tick }
    assembler := p.assembler.map Assembly.tick }

/-- One cycle of REFCLK at a branch: a sample tick every N + 1 cycles, and the transmission's own time (R154). -/
def BranchPort.cycle (p : BranchPort) : BranchPort :=
  let q := if p.settings.divisor.toNat ≤ p.phase then p.tick else { p with phase := p.phase + 1 }
  { q with sending := q.sending.map Transmission.cycle }

/-! ## One sample tick of the trunk's receive half, and the cycle of the transmit half (R165) -/

/-- The settling count of the trunk receive line at a sample tick (R162). -/
def TrunkPort.tickLine (l : Level) (t : TrunkPort) : TrunkLine :=
  match t.line with
  | .settling c => .settling (if l = .mark then min (c + 1) t.rxSettings.ct else 0)
  | .idle => .idle
  | .hearing => .hearing
  | .breakIn => .breakIn

/-- One sample tick of the trunk's receive half. -/
def TrunkPort.tick (t : TrunkPort) : TrunkPort :=
  let l := t.wave.headD .mark
  { t with
    wave := t.wave.tail
    phase := 0
    receiver := t.receiver.sample t.line.delivers (2 * t.rxSettings.ct) l
    line := t.tickLine l
    assembler := t.assembler.map Assembly.tick }

/-- One cycle of REFCLK at the trunk transmitter. -/
def TrunkTransmitter.cycle : TrunkTransmitter → TrunkTransmitter
  | .idle => .idle
  | .spacing n => .spacing (n - 1)
  | .sending item tx => .sending item tx.cycle
  | .stopping tx => .stopping tx.cycle

/-- One cycle of REFCLK at the trunk. -/
def TrunkPort.cycle (t : TrunkPort) : TrunkPort :=
  let u := if t.rxSettings.divisor.toNat ≤ t.phase then t.tick else { t with phase := t.phase + 1 }
  { u with transmitter := u.transmitter.cycle }

/-- One cycle of REFCLK of the whole part. -/
def State.cycle (s : State) : State :=
  { s with
    branches := s.branches.map BranchPort.cycle
    trunk := s.trunk.cycle
    agent := { s.agent with left := s.agent.left - 1 } }

/-! ## Events that are due -/

/-- An event, if its condition holds. -/
def whenDue (c : Bool) (i : Instr) : List Instr := if c then [i] else []

/-- The delivery of a character with the values the line unit read (R157 to R159). -/
def RxCharacter.delivery (c : RxCharacter) (f : Format) (p : Port) : Instr :=
  if c.markBit then .addressCharacter p c.byte (c.isNoisy f) (c.isDamaged f)
  else .dataCharacter p c.byte (c.isNoisy f) (c.isDamaged f)

/-- The character in reception is to be delivered: at its nominal end with every stop bit at mark; otherwise it is held
there, and delivered at the first later tick at which the pin is at mark (R159). -/
def Receiver.delivers (r : Receiver) (f : Format) : Bool :=
  match r.char with
  | none => false
  | some c => c.ended f && (c.stopsAtMark f || (c.isHeld f && r.level == .mark))

/-- The character in reception is a false start (R156). -/
def Receiver.falseStart (r : Receiver) : Bool :=
  match r.char with
  | none => false
  | some c => c.isFalseStart

/-- The events of reception that are due at a port (R156, R159). -/
def State.receptionDue (s : State) (p : Port) : List Instr :=
  let r := s.receiver p
  let f := (s.receiveSettings p).format
  whenDue (r.edge && s.takesEdge p) (.startBitLeadingEdge p)
    ++ whenDue (r.falseStart && s.takesFalseStart p) (.falseStart p)
    ++ (match r.char with
        | none => []
        | some c => whenDue (r.delivers f && s.isHearing p) (c.delivery f p))

/-- The pin of a port has been at space for 2 ct (R160). -/
def State.spaceFor2ct (s : State) (p : Port) : Bool :=
  decide (2 * (s.receiveSettings p).ct ≤ (s.receiver p).space)

/-- A settling count has reached 1 ct of mark (R162). -/
def State.settled (s : State) : Port → Bool
  | .trunk =>
    match s.trunk.line with
    | .settling c => decide (s.trunk.rxSettings.ct ≤ c)
    | .idle => false
    | .hearing => false
    | .breakIn => false
  | .branch b =>
    match (s.branch b).line with
    | .settling c => decide ((s.branch b).ct ≤ c)
    | .off => false
    | .quiet _ => false
    | .driving _ => false
    | .hearing => false
    | .breakOut _ => false
    | .breakIn _ => false

/-- The events due at any port. -/
def State.portDue (s : State) (p : Port) : List Instr :=
  s.receptionDue p
    ++ whenDue (s.gapTimerExpiryDue p) (.gapTimerExpiry p)
    ++ whenDue (s.stoppedCharacterEndDue p) (.stoppedCharacterEnd p)
    ++ whenDue (s.isBreakIn p && (s.receiver p).level == .mark) (.breakEnd p)
    ++ whenDue (s.isSettling p && s.settled p) (.settlingEnd p)

/-- The events due at a branch. -/
def State.branchDue (s : State) (b : Branch) : List Instr :=
  let p := s.branch b
  s.portDue (.branch b)
    ++ whenDue p.sendStartDue (.sendStart b)
    ++ whenDue p.endOfTransmissionDue (.endOfTransmission b)
    ++ whenDue p.replyTimerExpiryDue (.replyTimerExpiry b)
    ++ whenDue (s.datagramStartDue b) (.datagramStart b)
    ++ whenDue p.datagramEndDue (.datagramEnd b)
    ++ whenDue (p.takesBreak && s.spaceFor2ct (.branch b)) (.breakHeard b)
    ++ whenDue p.jamDue (.jam b)
    ++ whenDue p.breakEmissionEndDue (.breakEmissionEnd b)

/-- The events due on the trunk side and at the arbiter. -/
def State.trunkDue (s : State) : List Instr :=
  s.portDue .trunk
    ++ whenDue (s.trunk.line.hearsBreak && s.spaceFor2ct .trunk) .trunkLineReset
    ++ whenDue s.trunk.spacingEndDue .spacingEnd
    ++ whenDue s.trunk.transmissionEndDue .transmissionEnd
    ++ whenDue s.grantPossible .grant

/-- The completion of a command of each row. -/
def Command.event : Command → Instr
  | .identify => .identify
  | .readStatus => .readStatus
  | .readCounters => .readCounters
  | .readEntry => .readEntry
  | .writeEntry => .writeEntry
  | .clearEntry => .clearEntry
  | .loadWorking => .loadWorking
  | .commit => .commit
  | .setAdmission => .setAdmission
  | .setLine => .setLine
  | .trunkSetLine => .trunkSetLine
  | .setPolicy => .setPolicy
  | .resetBranch => .resetBranch
  | .setAddress => .setAddress
  | .restart => .restart
  | .echo => .echo
  | .unknown => .unknownCommand

/-- The completion of the executing command, if there is one (R172). -/
def State.completion (s : State) : List Instr :=
  match s.agent.queue with
  | [] => []
  | n :: _ => [(s.commandIn n).event]

/-- The events that are due now: no cycle of REFCLK passes before they are taken. A command is due when its time has run
out (R172). -/
def State.due (s : State) : List Instr :=
  s.trunkDue ++ Branch.all.flatMap s.branchDue ++ (if s.agent.left = 0 then s.completion else [])

/-! ## The step of an empty queue -/

/-- What a part with no command waiting may do next. -/
inductive Move
  | take (i : Instr)
  | cycle
  deriving DecidableEq, Repr

/-- The moves open to a part with no command waiting: a due event, or a cycle of REFCLK when none is due; and the
completion of the executing command, at any time within its limit (R172). -/
def State.moves (s : State) : List Move :=
  match s.due with
  | [] => .cycle :: s.completion.map .take
  | due => due.map .take ++ (if s.agent.left = 0 then [] else s.completion.map .take)

/-- A move is made: an event joins the queue of waiting events, to be taken by the next step; or one cycle passes. -/
def State.make (s : State) : Move → State
  | .take i => { s with pending := s.pending ++ [i] }
  | .cycle => s.cycle

/-- The step of a part with no command waiting (log entries 1 and 4). While RST# is low nothing happens (R167). Where more
than one move is open, the free value of Config says which is made. -/
def State.idle (s : State) : State :=
  if s.rstLow then s
  else match s.moves with
    | [m] => s.make m
    | ms => ({ s with choices := s.choices + 1 }).make (ms.getD (Config.choice s.choices % ms.length) .cycle)

end Sys2Proof.Machine
end

