-- ==== Sys2Proof/Safety.lean ====
section
/-! DEFINITION. What the statements about the OT420 say: the invariants that every step keeps (R23, R94, R97, R111, and the
ranges of the settings and queues), and the forms in which a command's completion is stated. -/

namespace Sys2Proof.Machine

/-! ## Invariants -/

/-- A branch whose slot holds a reservation: READY, SENDING or WAITING (R41). -/
def BranchPort.holdsReservation (p : BranchPort) : Bool :=
  match p.slot with
  | none => false
  | some x => x.phase.holdsReservation

/-- The number of slots in READY, SENDING or WAITING. -/
def State.reservedSlots (s : State) : Nat := (Branch.all.filter fun b => (s.branch b).holdsReservation).length

/-- The reservation count equals the number of slots in READY, SENDING or WAITING and never exceeds the free count
(R94). -/
def State.ReservationsBacked (s : State) : Prop := s.pool.reserved = s.reservedSlots ∧ s.pool.reserved ≤ s.freeCount

/-- What R23 says of the valid entries of ACTIVE, with the coupler address in 01h..FEh (R189). -/
def State.MapSound (s : State) : Prop :=
  (∀ i : Fin 16, (s.map.active.get i).valid = true →
    (s.map.active.get i).aligned = true ∧ (s.map.active.get i).reserved s.agent.coupler = false) ∧
  (∀ i j : Fin 16, i < j → (s.map.active.get i).valid = true → (s.map.active.get j).valid = true →
    (s.map.active.get i).trunkOverlap (s.map.active.get j) = false ∧ (s.map.active.get i).localOverlap (s.map.active.get j) = false) ∧
  s.agent.coupler ≠ 0x00 ∧ s.agent.coupler ≠ 0xFF

/-- The line of a branch is OFF exactly while the branch is CLOSED; a CLOSED branch holds no traffic (R111, R114). -/
def BranchPort.ClosedIsOff (p : BranchPort) : Prop :=
  (p.admission = .closed ↔ p.line = .off) ∧
  (p.admission = .closed → p.queue = [] ∧ p.slot = none ∧ p.assembler = none ∧ p.datagram = none)

/-- Every branch satisfies ClosedIsOff. -/
def State.ClosedIsOff (s : State) : Prop := ∀ b, (s.branch b).ClosedIsOff

/-- A branch sends while its line is DRIVING, and otherwise only a stopped character on an OFF or SETTLING line (R114, R115);
a frame is in assembly only while the line is HEARING (R116). -/
def BranchPort.DrivesWhatItSends (p : BranchPort) : Prop :=
  ((∃ a, p.line = .driving a) → p.sending ≠ none) ∧
  (p.sending ≠ none → (∃ a, p.line = .driving a) ∨ p.line = .off ∨ ∃ c, p.line = .settling c) ∧
  (p.assembler ≠ none → p.line = .hearing)

/-- Every branch satisfies DrivesWhatItSends. -/
def State.DrivesWhatItSends (s : State) : Prop := ∀ b, (s.branch b).DrivesWhatItSends

/-- The waiting set holds exactly the branches that meet the conditions of R97, each once. -/
def State.WaitingSettled (s : State) : Prop := (∀ b, b ∈ s.pool.waiting ↔ s.eligible b = true) ∧ s.pool.waiting.Nodup

/-- A number in a range. -/
def inRange (lo hi n : Nat) : Prop := lo ≤ n ∧ n ≤ hi

/-- The settings of a branch are in the ranges of section 6.8, and its queue in that of R106. -/
def BranchPort.InRange (p : BranchPort) : Prop :=
  inRange 1 15 p.settings.gapLimit ∧ inRange 1 15 p.turnaround ∧ inRange 1 16 p.queueLimit ∧ inRange 1 7 p.grantLevel ∧
  p.queue.length ≤ 16

/-- The settings of the whole part are in their ranges, and the queues of the agent (R171) and of refusals (R137) hold at
most 2 and 4. -/
def State.InRange (s : State) : Prop :=
  (∀ b, (s.branch b).InRange) ∧
  inRange 1 15 s.trunk.rxSettings.gapLimit ∧ inRange 1 15 s.trunk.txSettings.gapLimit ∧
  (∀ p, s.agent.pendingSetting = some p → inRange 1 15 p.settings.gapLimit) ∧
  s.agent.queue.length ≤ 2 ∧ s.trunk.refusals.length ≤ 4

/-! ## Values after power-on reset -/

/-- A route entry never written after power-on (R22). -/
def RouteEntry.IsPowerOn (e : RouteEntry) : Prop :=
  e.valid = false ∧ e.trunkBase = 0x00 ∧ e.sizeCode = 0 ∧ e.branch = .b1 ∧ e.localBase = 0x00 ∧ e.retries = 0 ∧ e.replyLimit = 1 ∧
  e.accepts = .both

/-- A receive side that has seen nothing: no break measure, no leading edge, no character in reception or held (R169). -/
def Receiver.IsAtRest (r : Receiver) : Prop := r.space = 0 ∧ r.edge = false ∧ r.char = none

/-- A branch after power-on reset (R132, R67, R6, R107, R169, R207). -/
def BranchPort.IsPowerOn (p : BranchPort) : Prop :=
  p.queue = [] ∧ p.admission = .opened ∧ p.queueLimit = 8 ∧ p.grantLevel = 4 ∧ p.broadcast = true ∧
  p.settings.divisor = 119 ∧ p.settings.format.parity = .none ∧ p.settings.format.twoStops = false ∧
  p.settings.format.noiseStrict = false ∧ p.settings.gapLimit = 3 ∧ p.turnaround = 2 ∧
  p.line = .settling 0 ∧ p.driverEnabled = false ∧ p.transmitLevel = .mark ∧ p.datagram = none ∧ p.assembler = none ∧
  p.slot = none ∧ p.lastClosed = none ∧ p.receiver.IsAtRest ∧ (∀ i, p.counters.counts.get i = 0) ∧ p.counters.flag = false

/-- The divisor that the straps TR[1:0] give (R168). -/
def strapTable (tr : BitVec 2) : Nat :=
  match tr.toNat with
  | 0 => 119
  | 1 => 59
  | 2 => 9
  | _ => 4

/-- One half of the trunk line settings after power-on reset (R166, R168). -/
def LineSettings.IsTrunkPowerOn (tr : BitVec 2) (ls : LineSettings) : Prop :=
  ls.divisor.toNat = strapTable tr ∧ ls.format.parity = .none ∧ ls.format.twoStops = false ∧ ls.format.noiseStrict = false ∧
  ls.gapLimit = 3

/-- The whole part after power-on reset with the straps at sa and tr: what the rules named at each block state. -/
def State.IsPowerOn (sa : BitVec 3) (tr : BitVec 2) (s : State) : Prop :=
  s.pool.free = List.finRange 32 ∧ s.pool.reserved = 0 ∧ s.pool.waiting = [] ∧
  (∀ i, (s.map.active.get i).IsPowerOn ∧ (s.map.working.get i).IsPowerOn) ∧ s.map.generation = 0 ∧
  (∀ b, (s.branch b).IsPowerOn) ∧
  s.trunk.rxSettings.IsTrunkPowerOn tr ∧ s.trunk.txSettings.IsTrunkPowerOn tr ∧ s.trunk.line = .settling 0 ∧
  s.trunk.transmitter = .idle ∧ s.trunk.transmitLevel = .mark ∧ s.trunk.upstream = [] ∧ s.trunk.refusals = [] ∧
  s.trunk.assembler = none ∧ s.trunk.receiver.IsAtRest ∧ (∀ i, s.trunk.counters.counts.get i = 0) ∧ s.trunk.counters.flag = false ∧
  s.agent.queue = [] ∧ s.agent.coupler.toNat = 0xF0 + sa.toNat ∧ s.agent.restartPending = false ∧
  s.agent.responseVoid = false ∧ s.agent.pendingSetting = none ∧ s.rstLow = false

/-! ## Forms of statements -/

/-- Everything bound for the master, in the order it is sent: the item being sent, then the upstream queue. -/
def State.trunkItems (s : State) : List UpItem := s.trunk.transmitter.items ++ s.trunk.upstream

/-- A command of row c is executing: n is at the head of the agent queue, `rest` behind it (R171). -/
def State.Executing (s : State) (c : Command) (n : BufferId) (rest : List BufferId) : Prop :=
  s.rstLow = false ∧ s.agent.queue = n :: rest ∧ s.commandIn n = c

/-- The executing command is to be answered: a REQUEST whose response is not void (R174, R196). -/
def State.Answers (s : State) (n : BufferId) : Prop := (s.desc n).kind = .request ∧ s.agent.responseVoid = false

/-- The response of a command is in its buffer (R174). -/
def Responded (s t : State) (n : BufferId) (v : Verdict) : Prop :=
  t.pool.buffers = s.pool.buffers.set n
    { chars := responseFrame (charAt (s.chars n) 0) (s.desc n).seq (commandCode (s.chars n)) v
      desc := { s.desc n with length := 7 + v.data.length, kind := .reply, refs := 1, route := none } }

/-- The longest time that a command in a buffer has when it begins, in cycles of REFCLK: 16 ct of the trunk for COMMIT and 1
ct for every other, at the receive settings in force (R172). -/
def State.limitOf (s : State) (n : BufferId) : Nat :=
  (if commandCode (s.chars n) = 0x08 then 16 else 1) *
    (16 * s.trunk.rxSettings.format.bits * (s.trunk.rxSettings.divisor.toNat + 1))

/-- The time of the command that begins at a completion: the next of those that waited, if there is one (R171, R172). -/
def State.limitOfNext (s : State) : List BufferId → Nat
  | [] => 0
  | n :: _ => s.limitOf n

/-- A completion whose command is answered, t from s, where `u` is s with the command's own effect: the response is
upstream with its mark, MGMT_COMMANDS is counted, the command has left the queue, the next one begins with its time, and
nothing else differs from u but the waiting set (R171, R172, R174, R176). -/
def Reported (u t : State) (n : BufferId) (rest : List BufferId) (v : Verdict) (carry : Carry) : Prop :=
  Responded u t n v ∧ t.trunkItems = u.trunkItems ++ [.frame n carry] ∧
  t.pool = { u.pool with buffers := t.pool.buffers, waiting := t.pool.waiting } ∧
  t.trunk = { u.trunk with
    upstream := t.trunk.upstream, transmitter := t.trunk.transmitter, counters := (u.trunk.count .mgmtCommands).counters } ∧
  t.agent = { u.agent with queue := rest, responseVoid := false, left := t.limitOfNext rest } ∧
  t.map = u.map ∧ t.branches = u.branches ∧ t.rstLow = u.rstLow ∧ t.pending = u.pending ∧ t.choices = u.choices

/-- A completion whose command is not answered, t from u: the buffer joins the tail of the free list (R175, R196). -/
def Dropped (u t : State) (n : BufferId) (rest : List BufferId) : Prop :=
  t.pool = { u.pool with
    buffers := u.pool.buffers.set n { chars := u.chars n, desc := { u.desc n with refs := 0 } }
    free := u.pool.free ++ [n], waiting := t.pool.waiting } ∧
  t.trunk = { u.trunk with counters := (u.trunk.count .mgmtCommands).counters } ∧
  t.agent = { u.agent with queue := rest, responseVoid := false, left := t.limitOfNext rest } ∧
  t.map = u.map ∧ t.branches = u.branches ∧ t.rstLow = u.rstLow ∧ t.pending = u.pending ∧ t.choices = u.choices

/-- A completion with this result and data, whose effect takes s to u and whose response carries nothing: answered or not
as R174, R175 and R196 say. -/
def Concluded (s u t : State) (n : BufferId) (rest : List BufferId) (v : Verdict) : Prop :=
  (s.Answers n → Reported u t n rest v .nothing) ∧ (¬ s.Answers n → Dropped u t n rest)

/-- A transmission with only its character in progress left to send (R122, R144). -/
def Transmission.cutShort (tx : Transmission) : Transmission :=
  { tx with chars := (tx.chars.drop tx.sent).take 1, sent := 0, addressFirst := tx.addressFirst && tx.sent == 0 }

/-- The trunk transmitter is stopped, u from t: a transmission in progress keeps its character in progress, and an IDLE or
SPACING transmitter stays so (R144). -/
def TransmitterStopped (t u : TrunkTransmitter) : Prop :=
  (t = .idle → u = .idle) ∧ (∀ left, t = .spacing left → u = .spacing left) ∧
  (∀ item tx, t = .sending item tx → u = .stopping tx.cutShort) ∧ (∀ tx, t = .stopping tx → u = .stopping tx)

/-- A branch at a trunk line reset, q from p (R66, R128): no frame, slot, record or queue entry is left; an OFF line is not
touched, a DRIVING one finishes its character in progress before it emits a break, and any other emits a break of 3 ct at
once; the configuration is kept. -/
def BranchPort.ResetSilently (p q : BranchPort) : Prop :=
  q = { p with queue := [], datagram := none, assembler := none, slot := none, lastClosed := none, line := q.line
               sending := q.sending, receiver := q.receiver, counters := q.counters } ∧
  (p.line = .off → q.line = .off ∧ q.sending = p.sending ∧ q.receiver = p.receiver) ∧
  (∀ a, p.line = .driving a →
    q.line = .driving .emission ∧ q.sending = p.sending.map Transmission.cutShort ∧ q.receiver = p.receiver) ∧
  (p.line ≠ .off → (∀ a, p.line ≠ .driving a) →
    q.line = .breakOut (3 * (16 * p.settings.format.bits)) ∧ q.sending = none ∧
    q.receiver = { level := .mark, space := 0, edge := false, char := none })

/-- A trunk line reset, t from s, on the trunk and in the agent (R147 to R149): BREAK_IN, nothing in assembly, bound for the
master or in the refusal store, the transmission stopped; the waiting command is gone and the response of an executing one
void; a pending setting has ended on both halves. -/
def TrunkReset (s t : State) : Prop :=
  t.trunk.line = .breakIn ∧
  t.trunk.receiver = { level := .space, space := s.trunk.receiver.space, edge := false, char := none } ∧
  t.trunk.assembler = none ∧ t.trunkItems = [] ∧ t.trunk.upstream = [] ∧ t.trunk.refusals = [] ∧
  TransmitterStopped s.trunk.transmitter t.trunk.transmitter ∧ t.pool.reserved = 0 ∧ t.pool.waiting = [] ∧ t.map = s.map ∧
  t.agent.coupler = s.agent.coupler ∧ t.agent.queue = s.agent.queue.take 1 ∧ t.agent.left = s.agent.left ∧
  t.agent.responseVoid = (s.agent.responseVoid || !s.agent.queue.isEmpty) ∧ t.agent.pendingSetting = none ∧
  (s.agent.pendingSetting = none → t.trunk.rxSettings = s.trunk.rxSettings ∧ t.trunk.txSettings = s.trunk.txSettings) ∧
  (∀ p, s.agent.pendingSetting = some p → t.trunk.rxSettings = p.settings ∧
    t.trunk.txSettings = if p.phase = .awaiting then p.settings else s.trunk.txSettings)

/-- The counters of a port, in the order of R199. -/
def State.counterList (s : State) : Port → List Word
  | .trunk => s.trunk.counters.counts.toList
  | .branch b => (s.branch b).counters.counts.toList

/-- No counter of any port is lower in t than in s. -/
def CountersRise (s t : State) : Prop :=
  ∀ p : Port, ∀ i : Nat, ((s.counterList p).getD i 0).toNat ≤ ((t.counterList p).getD i 0).toNat

/-- The operand values that R213 refuses, by command; the address of SET_ADDRESS inside a window is not among them. -/
def Command.refuses : Command → List Byte → Bool
  | .readCounters, ops => decide (4 < (charAt ops 0).toNat ∨ 1 < (charAt ops 1).toNat)
  | .readEntry, ops =>
    decide (1 < (charAt ops 0).toNat ∨ (charAt ops 2).toNat = 0 ∨ 4 < (charAt ops 2).toNat
      ∨ 15 < (charAt ops 1).toNat + (charAt ops 2).toNat - 1)
  | .writeEntry, ops =>
    decide (15 < (charAt ops 0).toNat ∨ 6 < (charAt ops 2).toNat ∨ (charAt ops 3).toNat = 0 ∨ 4 < (charAt ops 3).toNat
      ∨ 3 < (charAt ops 5).toNat ∨ (charAt ops 6).toNat = 0 ∨ (charAt ops 7).toNat = 0 ∨ 3 < (charAt ops 7).toNat)
  | .clearEntry, ops => decide (15 < (charAt ops 0).toNat)
  | .setAdmission, ops =>
    decide ((charAt ops 0).toNat = 0 ∨ 4 < (charAt ops 0).toNat ∨ 2 < (charAt ops 1).toNat)
  | .setLine, ops =>
    decide (4 < (charAt ops 0).toNat ∨ 15 < (charAt ops 1).toNat ∨ (charAt ops 3).toNat % 4 = 3 ∨ 15 < (charAt ops 3).toNat
      ∨ (charAt ops 4).toNat = 0 ∨ 15 < (charAt ops 4).toNat ∨ (charAt ops 5).toNat = 0 ∨ 15 < (charAt ops 5).toNat)
  | .trunkSetLine, ops =>
    decide (15 < (charAt ops 1).toNat ∨ (charAt ops 3).toNat % 4 = 3 ∨ 15 < (charAt ops 3).toNat
      ∨ (charAt ops 4).toNat = 0 ∨ 15 < (charAt ops 4).toNat)
  | .setPolicy, ops =>
    decide ((charAt ops 0).toNat = 0 ∨ 4 < (charAt ops 0).toNat ∨ (charAt ops 1).toNat = 0 ∨ 16 < (charAt ops 1).toNat
      ∨ (charAt ops 2).toNat = 0 ∨ 7 < (charAt ops 2).toNat ∨ 1 < (charAt ops 3).toNat)
  | .resetBranch, ops => decide ((charAt ops 0).toNat = 0 ∨ 4 < (charAt ops 0).toNat)
  | .setAddress, ops => decide ((charAt ops 0).toNat = 0 ∨ (charAt ops 0).toNat = 255)
  | .identify, _ => false
  | .readStatus, _ => false
  | .loadWorking, _ => false
  | .commit, _ => false
  | .restart, _ => false
  | .echo, _ => false
  | .unknown, _ => false

/-- The levels of the 16 samples of each bit of a character. -/
def sampleLevels (f : Format) (v : Byte) (markBit : Bool) : List Level :=
  (characterLevels f v markBit).flatMap (List.replicate 16)

/-- A character as the receiver takes it from these levels, the first of which is the leading edge (R156). -/
def RxCharacter.ofLevels (levels : List Level) : RxCharacter := (levels.drop 1).foldl RxCharacter.sample RxCharacter.first

/-- A frame in assembly with all these characters taken. -/
def Assembly.takeAll (chars : List Byte) (a : Assembly) : Assembly := chars.foldl (fun a v => a.take v) a

end Sys2Proof.Machine
end

