-- ==== Sys2Proof/Certificates/Slice0/Obligations.lean ====
section
/-! DEFINITION. The statements for the provers: what the rules of spec/ say the commands of the OT420 do. Where a
conclusion ends in `updateWaiting`, the waiting set follows from the event in that event (R97), as
Obligations.WaitingSetFollowsEveryEvent states. -/

open Sys2Proof Sys2Proof.Machine

/-! ## The machine -/

/-- The command at the front of the queue is executed on the state with the queue's rest (the model's choice, log entry 1). -/
def Obligations.StepTakesFrontCommand : Prop :=
  ∀ (c : Instr) (rest : List Instr) (s : State), s.pending = c :: rest → step s = exec c { s with pending := rest }

/-- With no command waiting, an event that is due is taken before time goes on; with none due and no command executing, time
goes on by one cycle of REFCLK; with none due and one executing, either, or it completes (R172; the model's choices, log entries
1 and 4).
A cycle at a branch: every N + 1 cycles a sample tick (where it falls is the model's choice, log entry 5), at which the quiet
time counts up to 15 ct, the jam timer to 256 ct and the settling count of a line at mark to 1 ct (it stays 0 while a stopped
character is finished), what is left of an emission, of a reply timer in WAITING and of a running gap timer counts down, the
break measure counts ticks at space to 2 ct, an edge is seen after a tick at mark, and samples 7, 8 and 9 of a bit are kept
(R11, R48, R116, R118, R155, R156, R160 to R162); while the driver is enabled the pin's level alone is kept (R163), and an OFF
line reads nothing (R164).
A cycle at the trunk: the same; the spacing and the executing command's time count down (R138, R172).
What is due, and nothing else is: a character at its end, with its stop bits at mark, or held and the pin at mark (R159); an
edge; the false start at sample 9 (R156); the end of a timer; 2 ct of space, 1 ct of mark, 256 ct in BREAK_IN (R124, R160,
R162); a start after the turnaround gap (R45, R121); the end of what is sent; a possible grant (R98); a command at the end of
its time. -/
def Obligations.IdleTakesDueEventsBeforeTime : Prop :=
  (∀ s : State, s.pending = [] → s.rstLow = false →
    (s.due ≠ [] → ∃ i ∈ s.due ++ s.completion, ∃ k, step s = .next { s with pending := [i], choices := k }) ∧
    (s.due = [] → s.agent.queue = [] → step s = .next s.cycle) ∧
    (s.completion = match s.agent.queue with
      | [] => []
      | n :: _ => [(s.commandIn n).event]) ∧
    (∀ n rest, s.due = [] → s.agent.queue = n :: rest →
      step s = .next { s.cycle with choices := s.choices + 1 } ∨
      step s = .next { s with pending := [(s.commandIn n).event], choices := s.choices + 1 })) ∧
  (∀ (s : State) (b : Branch),
    let p := s.branch b
    let q := s.cycle.branch b
    let ct := 16 * p.settings.format.bits
    let l := p.wave.headD .mark
    let sampled : Option RxCharacter → Option RxCharacter := Option.map fun c =>
      { count := c.count + 1
        samples := if (c.count + 1) % 16 = 7 ∨ (c.count + 1) % 16 = 8 ∨ (c.count + 1) % 16 = 9 then c.samples ++ [l] else c.samples }
    let taking := (∃ t, p.line = .quiet t) ∨ p.line = .hearing
    (p.phase < p.settings.divisor.toNat →
      q = { p with phase := p.phase + 1, sending := p.sending.map Transmission.cycle }) ∧
    (p.settings.divisor.toNat ≤ p.phase →
      q = { p with phase := 0, wave := p.wave.tail, sending := p.sending.map Transmission.cycle
                   line := q.line, receiver := q.receiver, slot := q.slot, assembler := q.assembler } ∧
      (∀ t, p.line = .quiet t → q.line = .quiet (min (t + 1) (15 * ct))) ∧
      (∀ j, p.line = .breakIn j → q.line = .breakIn (min (j + 1) (256 * ct))) ∧
      (∀ k, p.line = .breakOut k → q.line = .breakOut (k - 1)) ∧
      (∀ c, p.line = .settling c → p.sending = none → q.line = .settling (if l = .mark then min (c + 1) ct else 0)) ∧
      (∀ c, p.line = .settling c → p.sending ≠ none → q.line = .settling 0) ∧
      (p.line = .off ∨ p.line = .hearing ∨ (∃ a, p.line = .driving a) → q.line = p.line) ∧
      (∀ x left, p.slot = some x → x.phase = .waiting left → q.slot = some { x with phase := .waiting (left - 1) }) ∧
      (p.slot = none ∨ (∃ x, p.slot = some x ∧ ∀ left, x.phase ≠ .waiting left) → q.slot = p.slot) ∧
      (∀ a g, p.assembler = some a → a.gap = some g → q.assembler = some { a with gap := some (g - 1) }) ∧
      (p.assembler = none ∨ (∃ a, p.assembler = some a ∧ a.gap = none) → q.assembler = p.assembler) ∧
      (p.sending ≠ none ∨ (∃ k, p.line = .breakOut k) →
        q.receiver = { level := l, space := 0, edge := false, char := none }) ∧
      (p.sending = none → p.line ≠ .off → (∀ k, p.line ≠ .breakOut k) →
        q.receiver.level = l ∧ (q.receiver.space = if l = .space then min (p.receiver.space + 1) (2 * ct) else 0) ∧
        (q.receiver.edge = true ↔ taking ∧ p.receiver.char = none ∧ l = .space ∧ p.receiver.level = .mark) ∧
        (taking → q.receiver.char = sampled p.receiver.char) ∧ (¬ taking → q.receiver.char = none)) ∧
      (p.sending = none → p.line = .off → q.receiver = { level := .mark, space := 0, edge := false, char := none }))) ∧
  (∀ s : State,
    let p := s.trunk
    let q := s.cycle.trunk
    let ct := 16 * p.rxSettings.format.bits
    let l := p.wave.headD .mark
    let sampled : Option RxCharacter → Option RxCharacter := Option.map fun c =>
      { count := c.count + 1
        samples := if (c.count + 1) % 16 = 7 ∨ (c.count + 1) % 16 = 8 ∨ (c.count + 1) % 16 = 9 then c.samples ++ [l] else c.samples }
    let taking := p.line = .idle ∨ p.line = .hearing
    s.cycle = { s with branches := s.cycle.branches, trunk := q, agent := { s.agent with left := s.agent.left - 1 } } ∧
    (∀ left, p.transmitter = .spacing left → q.transmitter = .spacing (left - 1)) ∧
    (p.transmitter = .idle → q.transmitter = .idle) ∧
    (∀ item tx, p.transmitter = .sending item tx → q.transmitter = .sending item tx.cycle) ∧
    (∀ tx, p.transmitter = .stopping tx → q.transmitter = .stopping tx.cycle) ∧
    (p.phase < p.rxSettings.divisor.toNat → q = { p with phase := p.phase + 1, transmitter := q.transmitter }) ∧
    (p.rxSettings.divisor.toNat ≤ p.phase →
      q = { p with phase := 0, wave := p.wave.tail, transmitter := q.transmitter, line := q.line, receiver := q.receiver
                   assembler := q.assembler } ∧
      (∀ c, p.line = .settling c → q.line = .settling (if l = .mark then min (c + 1) ct else 0)) ∧
      ((∀ c, p.line ≠ .settling c) → q.line = p.line) ∧
      (∀ a g, p.assembler = some a → a.gap = some g → q.assembler = some { a with gap := some (g - 1) }) ∧
      (p.assembler = none ∨ (∃ a, p.assembler = some a ∧ a.gap = none) → q.assembler = p.assembler) ∧
      q.receiver.level = l ∧ (q.receiver.space = if l = .space then min (p.receiver.space + 1) (2 * ct) else 0) ∧
      (q.receiver.edge = true ↔ taking ∧ p.receiver.char = none ∧ l = .space ∧ p.receiver.level = .mark) ∧
      (taking → q.receiver.char = sampled p.receiver.char) ∧ (¬ taking → q.receiver.char = none))) ∧
  (∀ (s : State) (b : Branch),
    let p := s.branch b
    let r := p.receiver
    let f := p.settings.format
    let ct := 16 * f.bits
    let due := fun (i : Instr) => i ∈ s.due
    let hears := (∃ t, p.line = .quiet t) ∨ p.line = .hearing
    let gap := ∃ t, p.line = .quiet t ∧ p.turnaround * ct ≤ t
    let sent := ∃ tx, p.sending = some tx ∧ tx.chars.length ≤ tx.sent
    let ended := fun (markBit : Bool) (v : Byte) (noisy damaged : Bool) => p.line = .hearing ∧ ∃ c, r.char = some c ∧
      ct ≤ c.count ∧ (c.stopsAtMark f = true ∨ (ct < c.count ∧ r.level = .mark)) ∧
      c.markBit = markBit ∧ c.byte = v ∧ c.isNoisy f = noisy ∧ c.isDamaged f = damaged
    (∀ v noisy damaged, due (.addressCharacter (.branch b) v noisy damaged) ↔ ended true v noisy damaged) ∧
    (∀ v noisy damaged, due (.dataCharacter (.branch b) v noisy damaged) ↔ ended false v noisy damaged) ∧
    (due (.startBitLeadingEdge (.branch b)) ↔ hears ∧ r.char = none ∧ r.edge = true) ∧
    (due (.falseStart (.branch b)) ↔ p.line = .hearing ∧ ∃ c, r.char = some c ∧ c.count = 9 ∧ c.value 0 = true) ∧
    (due (.gapTimerExpiry (.branch b)) ↔ ∃ a, p.assembler = some a ∧ a.gap = some 0) ∧
    (due (.breakHeard b) ↔ (hears ∨ ∃ c, p.line = .settling c) ∧ p.sending = none ∧ 2 * ct ≤ r.space) ∧
    (due (.breakEnd (.branch b)) ↔ (∃ j, p.line = .breakIn j) ∧ r.level = .mark) ∧
    (due (.settlingEnd (.branch b)) ↔ (∃ c, p.line = .settling c ∧ ct ≤ c) ∧ p.sending = none) ∧
    (due (.jam b) ↔ ∃ j, p.line = .breakIn j ∧ 256 * ct ≤ j) ∧
    (due (.breakEmissionEnd b) ↔ p.line = .breakOut 0) ∧
    (due (.sendStart b) ↔ (∃ x, p.slot = some x ∧ x.phase = .ready) ∧ gap) ∧
    (due (.endOfTransmission b) ↔ (∃ x, p.slot = some x ∧ x.phase = .sending) ∧ p.line = .driving .frame ∧ sent) ∧
    (due (.replyTimerExpiry b) ↔ ∃ x, p.slot = some x ∧ x.phase = .waiting 0) ∧
    (due (.datagramStart b) ↔ (∃ n rest, p.queue = n :: rest ∧ (s.desc n).kind = .datagram) ∧ p.slot = none ∧ gap) ∧
    (due (.datagramEnd b) ↔ p.datagram ≠ none ∧ p.line = .driving .frame ∧ sent) ∧
    (due (.stoppedCharacterEnd (.branch b)) ↔
      (p.line = .off ∨ (∃ c, p.line = .settling c) ∨ p.line = .driving .emission ∨ p.line = .driving .settle) ∧ sent)) ∧
  (∀ s : State,
    let p := s.trunk
    let r := p.receiver
    let f := p.rxSettings.format
    let ct := 16 * f.bits
    let due := fun (i : Instr) => i ∈ s.due
    let hears := p.line = .idle ∨ p.line = .hearing
    let ended := fun (markBit : Bool) (v : Byte) (noisy damaged : Bool) => p.line = .hearing ∧ ∃ c, r.char = some c ∧
      ct ≤ c.count ∧ (c.stopsAtMark f = true ∨ (ct < c.count ∧ r.level = .mark)) ∧
      c.markBit = markBit ∧ c.byte = v ∧ c.isNoisy f = noisy ∧ c.isDamaged f = damaged
    (∀ v noisy damaged, due (.addressCharacter .trunk v noisy damaged) ↔ ended true v noisy damaged) ∧
    (∀ v noisy damaged, due (.dataCharacter .trunk v noisy damaged) ↔ ended false v noisy damaged) ∧
    (due (.startBitLeadingEdge .trunk) ↔ hears ∧ r.char = none ∧ r.edge = true) ∧
    (due (.falseStart .trunk) ↔ p.line = .hearing ∧ ∃ c, r.char = some c ∧ c.count = 9 ∧ c.value 0 = true) ∧
    (due (.gapTimerExpiry .trunk) ↔ ∃ a, p.assembler = some a ∧ a.gap = some 0) ∧
    (due .trunkLineReset ↔ (hears ∨ ∃ c, p.line = .settling c) ∧ 2 * ct ≤ r.space) ∧
    (due (.breakEnd .trunk) ↔ p.line = .breakIn ∧ r.level = .mark) ∧
    (due (.settlingEnd .trunk) ↔ ∃ c, p.line = .settling c ∧ ct ≤ c) ∧
    (due .spacingEnd ↔ p.transmitter = .spacing 0) ∧
    (due .transmissionEnd ↔ ∃ item tx, p.transmitter = .sending item tx ∧ tx.chars.length ≤ tx.sent) ∧
    (due (.stoppedCharacterEnd .trunk) ↔ ∃ tx, p.transmitter = .stopping tx ∧ tx.chars.length ≤ tx.sent) ∧
    (due .grant ↔ s.pool.reserved < s.pool.free.length ∧ ∃ b ∈ s.pool.waiting, s.eligible b = true) ∧
    (∀ c : Command, due c.event ↔ s.agent.left = 0 ∧ ∃ n rest, s.agent.queue = n :: rest ∧ s.commandIn n = c) ∧
    ¬ due .rstLow ∧ ∀ sa tr, ¬ due (.powerOnReset sa tr))

/-! ## Resets from outside (R167, R168) -/

/-- POWER_ON_RESET completes from every state and gives every block its power-on values. -/
def Obligations.PowerOnResetSetsEveryBlock : Prop :=
  ∀ (sa : BitVec 3) (tr : BitVec 2) (s : State),
    ∃ t, exec (.powerOnReset sa tr) s = .next t ∧ t.IsPowerOn sa tr ∧ t.pending = s.pending

/-- The state after reset is the power-on state with both straps at 0 (the straps are the model's choice, log entry 2), and it
satisfies every invariant. -/
def Obligations.ResetStateHasPowerOnValues : Prop :=
  (State.reset.IsPowerOn 0 0 ∧ State.reset.pending = []) ∧
  (State.reset.ReservationsBacked ∧ State.reset.MapSound ∧ State.reset.ClosedIsOff ∧ State.reset.DrivesWhatItSends ∧
     State.reset.WaitingSettled ∧
     State.reset.InRange)

/-- RST_LOW completes from every state: every transmit pin is at mark, every driver released, and no character, break, timer
or frame is left in any block (R167). The rest of what the blocks hold while RST# is low is the model's choice (log entry 7):
the free list in ascending order, the trunk line SETTLING, a branch line OFF or SETTLING, no last-closed record, no pending
flag or setting, no command.
While RST# is low the part takes no event but POWER_ON_RESET (R167).
An event whose conditions do not hold leaves the state exactly as it is (the model's choice, log entry 3): a character or an
edge on a line that is not QUIET, IDLE or HEARING (R115, R145), a break on a line that hears none (R47, R117), a SEND_START or
DATAGRAM_START on a line that is not QUIET (R46, R121), a GRANT with free count equal to reservation count or no branch
waiting (R98), the end of a timer that does not run or of a transmission that is not made, a completion of a command that is
not executing. -/
def Obligations.RstLowHoldsThePart : Prop :=
  (∀ s : State, ∃ t, exec .rstLow s = .next t ∧ t.rstLow = true ∧ t.trunk.transmitLevel = .mark ∧ t.trunkItems = [] ∧
       t.trunk.transmitter = .idle ∧ t.trunk.refusals = [] ∧ t.trunk.line = .settling 0 ∧
       t.trunk.assembler = none ∧ t.trunk.receiver.IsAtRest ∧ t.agent.queue = [] ∧ t.agent.pendingSetting = none ∧
       t.agent.restartPending = false ∧ t.agent.responseVoid = false ∧ t.agent.left = 0 ∧
       t.pool.free = List.finRange 32 ∧ t.pool.reserved = 0 ∧ t.pool.waiting = [] ∧ t.pending = s.pending ∧
       ∀ b, (t.branch b).transmitLevel = .mark ∧ (t.branch b).driverEnabled = false ∧ (t.branch b).sending = none ∧
         (t.branch b).datagram = none ∧ (t.branch b).assembler = none ∧ (t.branch b).receiver.IsAtRest ∧
         (t.branch b).slot = none ∧ (t.branch b).lastClosed = none ∧ (t.branch b).queue = [] ∧
         ((t.branch b).line = .off ∨ (t.branch b).line = .settling 0)) ∧
  (∀ (s : State) (i : Instr), s.rstLow = true → (∀ sa tr, i ≠ .powerOnReset sa tr) → i ≠ .rstLow →
       exec i s = .next s ∧ (s.pending = [] → step s = .next s)) ∧
  (∀ (s : State) (b : Branch),
       let p := s.branch b
       let same := fun (i : Instr) => exec i s = .next s
       (p.line ≠ .hearing → (∀ t, p.line ≠ .quiet t) → same (.startBitLeadingEdge (.branch b)) ∧ ∀ v noisy damaged,
         same (.addressCharacter (.branch b) v noisy damaged) ∧ same (.dataCharacter (.branch b) v noisy damaged)) ∧
       (p.receiver.char ≠ none → same (.startBitLeadingEdge (.branch b))) ∧
       (p.line ≠ .hearing ∨ p.receiver.char = none → same (.falseStart (.branch b))) ∧
       ((∀ a g, p.assembler = some a → a.gap ≠ some g) → same (.gapTimerExpiry (.branch b))) ∧
       (p.line ≠ .hearing → (∀ t, p.line ≠ .quiet t) → (∀ c, p.line ≠ .settling c) → same (.breakHeard b)) ∧
       (p.sending ≠ none → same (.breakHeard b) ∧ same (.settlingEnd (.branch b))) ∧
       ((∀ j, p.line ≠ .breakIn j) → same (.breakEnd (.branch b)) ∧ same (.jam b)) ∧
       ((∀ c, p.line ≠ .settling c) → same (.settlingEnd (.branch b))) ∧
       ((∀ k, p.line ≠ .breakOut k) → same (.breakEmissionEnd b)) ∧
       ((∀ t, p.line ≠ .quiet t) → same (.sendStart b) ∧ same (.datagramStart b)) ∧
       ((∀ x, p.slot = some x → x.phase ≠ .ready) → same (.sendStart b)) ∧
       ((∀ x, p.slot = some x → x.phase ≠ .sending) → same (.endOfTransmission b)) ∧
       ((∀ x left, p.slot = some x → x.phase ≠ .waiting left) → same (.replyTimerExpiry b)) ∧
       (p.slot ≠ none ∨ (∀ n rest, p.queue = n :: rest → (s.desc n).kind ≠ .datagram) → same (.datagramStart b)) ∧
       (p.line ≠ .driving .frame ∨ p.sending = none → same (.endOfTransmission b) ∧ same (.datagramEnd b)) ∧
       (p.datagram = none → same (.datagramEnd b)) ∧
       (p.sending = none ∨ p.line = .driving .frame ∨ p.line = .hearing ∨ (∃ t, p.line = .quiet t) ∨
           (∃ k, p.line = .breakOut k) ∨ (∃ j, p.line = .breakIn j) → same (.stoppedCharacterEnd (.branch b)))) ∧
  (∀ s : State,
       let p := s.trunk
       let same := fun (i : Instr) => exec i s = .next s
       (p.line ≠ .hearing → p.line ≠ .idle → same (.startBitLeadingEdge .trunk) ∧ ∀ v noisy damaged,
         same (.addressCharacter .trunk v noisy damaged) ∧ same (.dataCharacter .trunk v noisy damaged)) ∧
       (p.receiver.char ≠ none → same (.startBitLeadingEdge .trunk)) ∧
       (p.line ≠ .hearing ∨ p.receiver.char = none → same (.falseStart .trunk)) ∧
       ((∀ a g, p.assembler = some a → a.gap ≠ some g) → same (.gapTimerExpiry .trunk)) ∧
       (p.line = .breakIn → same .trunkLineReset) ∧ (p.line ≠ .breakIn → same (.breakEnd .trunk)) ∧
       ((∀ c, p.line ≠ .settling c) → same (.settlingEnd .trunk)) ∧
       ((∀ left, p.transmitter ≠ .spacing left) → same .spacingEnd) ∧
       ((∀ item tx, p.transmitter ≠ .sending item tx) → same .transmissionEnd) ∧
       ((∀ tx, p.transmitter ≠ .stopping tx) → same (.stoppedCharacterEnd .trunk)) ∧
       (s.pool.free.length ≤ s.pool.reserved ∨ (∀ b ∈ s.pool.waiting, s.eligible b = false) → same .grant) ∧
       ∀ c : Command, (∀ n rest, s.agent.queue = n :: rest → s.commandIn n ≠ c) → same c.event)

/-! ## Frames (Section 1) -/

/-- The check is the CRC of R3: the register starts at FFFFh, each character is exclusive-ORed into its upper half and shifted
out bit by bit, most significant first, with 1021h exclusive-ORed in for each 1 shifted out. The value 29B1h for the nine characters "123456789", and every fault frame has the layout of
R17 under it. The ten reasons have the codes 01h to 0Ah, in the order of R17. -/
def Obligations.FaultFrameHasItsLayoutAndCheck : Prop :=
  (∀ covered : List Byte, checkOf covered = covered.foldl crcChar 0xFFFF) ∧
  (∀ (r : Word) (v : Byte), crcChar r v =
    Nat.iterate (fun x => if x.getLsbD 15 then (x <<< 1) ^^^ 0x1021 else x <<< 1) 8 (r ^^^ (v ++ (0 : Byte)))) ∧
  checkOf [0x31, 0x32, 0x33, 0x34, 0x35, 0x36, 0x37, 0x38, 0x39] = 0x29B1 ∧
  [FaultReason.noReply, .badReply, .lineBreak, .aborted, .unrouted, .parked, .queueFull, .noBuffer, .kindBarred, .agentBusy].map
    FaultReason.code = [0x01, 0x02, 0x03, 0x04, 0x05, 0x06, 0x07, 0x08, 0x09, 0x0A] ∧
  ∀ (a : Byte) (q : Sequence) (r : FaultReason) (branch attempts : Nat),
    faultFrame a q r branch attempts =
      [a, 0x60 + q.setWidth 8, 3, r.code, BitVec.ofNat 8 branch, BitVec.ofNat 8 attempts,
        (checkOf [a, 0x60 + q.setWidth 8, 3, r.code, BitVec.ofNat 8 branch, BitVec.ofNat 8 attempts]).extractLsb' 8 8,
        (checkOf [a, 0x60 + q.setWidth 8, 3, r.code, BitVec.ofNat 8 branch, BitVec.ofNat 8 attempts]).extractLsb' 0 8]

/-- A frame that the coupler makes is received whole: an assembler that takes its characters, ADDRESS first, has at CHECK LO
the count 5 + n, the expected length 5 + n, and a running check equal to the check received. The check is sent CHECK HI first
(R2). -/
def Obligations.GeneratedFramesAreReceivedValid : Prop :=
  ∀ (store : Option BufferId) (a control : Byte) (payload : List Byte), payload.length ≤ 64 →
    let covered := [a, control, byteOf payload.length] ++ payload
    let last := (Assembly.start store a).takeAll ((withCheck covered).drop 1)
    last.count = 5 + payload.length ∧ last.expected = some (5 + payload.length) ∧ last.check = checkOf covered ∧
    wordOf (hiByte (checkOf covered)) (loByte (checkOf covered)) = checkOf covered ∧
    withCheck covered = covered ++ [(checkOf covered).extractLsb' 8 8, (checkOf covered).extractLsb' 0 8]

/-- Orphan characters on a branch (R8): counted, a noisy one in NOISY_CHARS too, and the line is QUIET with quiet time 0.
Orphan characters on the trunk (R8): counted, and the line is IDLE; a setting being taken up reaches the receive half
(R142). That a noisy and damaged orphan counts NOISY_CHARS too is read from R8 and R12 (log entry 12).
At the end of a character a pin at space is the leading edge of the next one (R160). A branch takes characters while QUIET or
HEARING, the trunk while IDLE or HEARING. -/
def Obligations.OrphanCharacterIsCounted : Prop :=
  let ended := fun (r : Receiver) => ({ r with char := none, edge := r.char.isSome && r.level == .space } : Receiver)
  (∀ l : LineState, l.delivers = true ↔ (∃ q, l = .quiet q) ∨ l = .hearing) ∧
  (∀ l : TrunkLine, l.delivers = true ↔ l = .idle ∨ l = .hearing) ∧
  (∀ (b : Branch) (v : Byte) (noisy damaged : Bool) (s : State), s.rstLow = false → (s.branch b).line.delivers = true →
       (s.branch b).assembler = none →
       exec (.dataCharacter (.branch b) v noisy damaged) s = .next
         ((s.setBranch b { s.branch b with
           line := .quiet 0
           receiver := ended (s.branch b).receiver
           counters := (if noisy then ((s.branch b).count .orphanChars).count .noisyChars else (s.branch b).count .orphanChars).counters
         }).updateWaiting)) ∧
  (∀ (v : Byte) (noisy damaged : Bool) (s : State), s.rstLow = false → s.trunk.line.delivers = true → s.trunk.assembler = none →
       exec (.dataCharacter .trunk v noisy damaged) s = .next
         (((s.setTrunk { s.trunk with
           line := .idle
           receiver := ended s.trunk.receiver
           counters := (if noisy then (s.trunk.count .orphanChars).count .noisyChars else s.trunk.count .orphanChars).counters
         }).receiveAtRest).updateWaiting))

/-- An address character that begins a trunk frame claims the head of the free list when the free count exceeds the
reservation count, and otherwise begins an unstored frame and counts NO_BUFFER (R7, R92).
A noisy one counts NOISY_CHARS and marks the frame noisy, or spoils it under noise-strict (R12); one that is noisy and
damaged spoils the frame and sets no noisy mark (the model's reading, log entry 12).
The buffer claimed holds ADDRESS as its first character, has reference count 1 and no route part, and is in assembly (R7, R89);
its length, kind and sequence stay until the frame completes, and are not read (the model's choice, log entry 6). At the end of
the character a pin at space is the next leading edge (R160). -/
def Obligations.TrunkAddressClaimsUnreservedBuffer : Prop :=
  let ended := fun (r : Receiver) => ({ r with char := none, edge := r.char.isSome && r.level == .space } : Receiver)
  let claimed := fun (s : State) (n : BufferId) (v : Byte) =>
    ({ chars := [v], desc := { s.desc n with refs := 1, route := none, inAssembly := true } } : Buffer)
  ∀ (v : Byte) (noisy damaged : Bool) (s : State), s.rstLow = false → s.trunk.line.delivers = true → s.trunk.assembler = none →
    let strict := s.trunk.rxSettings.format.noiseStrict
    let frame : Option BufferId → List Byte → Assembly := fun store header =>
      { store := store, header := header, check := crcChar 0xFFFF v, count := 1, expected := none,
        spoiled := damaged || (noisy && strict), noisy := noisy && !strict && !damaged, last := v,
        gap := some (s.trunk.rxSettings.gapLimit * s.trunk.rxSettings.ct) }
    let heard : TrunkPort → TrunkPort := fun t => if noisy then t.count .noisyChars else t
    (∀ n rest, s.pool.free = n :: rest → s.pool.reserved < s.pool.free.length →
      exec (.addressCharacter .trunk v noisy damaged) s = .next
        (((s.setPool { s.pool with
          free := rest, buffers := s.pool.buffers.set n (claimed s n v) }).setTrunk { s.trunk with
            line := .hearing, receiver := ended s.trunk.receiver, assembler := some (frame (some n) [])
            counters := (heard s.trunk).counters }).updateWaiting)) ∧
    (s.pool.free.length ≤ s.pool.reserved →
      exec (.addressCharacter .trunk v noisy damaged) s = .next
        ((s.setTrunk { s.trunk with
          line := .hearing, receiver := ended s.trunk.receiver, assembler := some (frame none [v])
          counters := (heard (s.trunk.count .noBuffer)).counters }).updateWaiting))

/-- An address character equal to L, while the slot is WAITING or READY after an attempt, converts the slot's reservation
into the reply buffer and freezes a running reply timer at a value above 0 (R49, R52, R59, R95; of a timer that has run out
in the same tick the value is 1 sample tick, log entry 16); any other begins an unstored frame and touches the pool not at all (R7, R50).
A noisy one counts NOISY_CHARS and marks the frame noisy, or spoils it under noise-strict (R12); one that is noisy and
damaged spoils the frame and sets no noisy mark (the model's reading, log entry 12).
The converted buffer holds ADDRESS as its first character, has reference count 1 and no route part, and is in assembly (R7,
R89); its length, kind and sequence stay until the frame completes, and are not read (the model's choice, log entry 6). At the
end of the character a pin at space is the next leading edge (R160). -/
def Obligations.BranchAddressConvertsReservation : Prop :=
  let ended := fun (r : Receiver) => ({ r with char := none, edge := r.char.isSome && r.level == .space } : Receiver)
  let claimed := fun (s : State) (n : BufferId) (v : Byte) =>
    ({ chars := [v], desc := { s.desc n with refs := 1, route := none, inAssembly := true } } : Buffer)
  ∀ (b : Branch) (v : Byte) (noisy damaged : Bool) (s : State), s.rstLow = false → (s.branch b).line.delivers = true →
    (s.branch b).assembler = none →
    let p := s.branch b
    let strict := p.settings.format.noiseStrict
    let frame : Option BufferId → List Byte → Assembly := fun store header =>
      { store := store, header := header, check := crcChar 0xFFFF v, count := 1, expected := none,
        spoiled := damaged || (noisy && strict), noisy := noisy && !strict && !damaged, last := v,
        gap := some (p.settings.gapLimit * p.settings.ct) }
    let counters := (if noisy then p.count .noisyChars else p).counters
    (∀ x n rest timer, p.slot = some x → x.localAddress = v →
      (x.phase = .ready ∧ 1 ≤ x.attempts ∧ timer = none ∨ ∃ left, x.phase = .waiting left ∧ timer = some (max left 1)) →
      s.pool.free = n :: rest →
      exec (.addressCharacter (.branch b) v noisy damaged) s = .next
        (((s.setPool { s.pool with
          free := rest, reserved := s.pool.reserved - 1
          buffers := s.pool.buffers.set n (claimed s n v) }).setBranch b { p with
            line := .hearing, receiver := ended p.receiver, assembler := some (frame (some n) [])
            slot := some { x with phase := .receiving n timer }, counters := counters }).updateWaiting)) ∧
    ((∀ x, p.slot = some x → x.localAddress ≠ v ∨ x.phase = .sending ∨ (x.phase = .ready ∧ x.attempts = 0) ∨
        ∃ n f, x.phase = .receiving n f) →
      exec (.addressCharacter (.branch b) v noisy damaged) s = .next
        ((s.setBranch b { p with
          line := .hearing, receiver := ended p.receiver, assembler := some (frame none [v])
          counters := counters }).updateWaiting))

/-- An address character in a frame abandons that frame first and is then taken as in R7 (R10).
The gap timer's expiry abandons the frame; a branch is QUIET with the gap limit as its quiet time, the trunk IDLE, where a
setting being taken up reaches the receive half (R11, R116, R142, R145). A running timer runs out first (the model's choice, log entry 3). -/
def Obligations.EarlyAddressAndGapAbandonFrame : Prop :=
  (∀ (p : Port) (v : Byte) (noisy damaged : Bool) (s : State) (a : Assembly), s.rstLow = false → s.delivers p = true →
       s.assembler p = some a →
       exec (.addressCharacter p v noisy damaged) s = exec (.addressCharacter p v noisy damaged) (s.abandon p a)) ∧
  (∀ (b : Branch) (s : State) (a : Assembly) (g : Nat), s.rstLow = false → (s.branch b).assembler = some a → a.gap = some g →
       let u := s.abandon (.branch b) a
       exec (.gapTimerExpiry (.branch b)) s = .next
         ((u.setBranch b { u.branch b with
           line := .quiet ((s.branch b).settings.gapLimit * (s.branch b).settings.ct) }).updateWaiting)) ∧
  (∀ (s : State) (a : Assembly) (g : Nat), s.rstLow = false → s.trunk.assembler = some a → a.gap = some g →
       let u := s.abandon .trunk a
       exec (.gapTimerExpiry .trunk) s = .next (((u.setTrunk { u.trunk with line := .idle }).receiveAtRest).updateWaiting))

/-- A data character of a frame that neither ends it at LENGTH nor is CHECK LO goes into it (R2, R9, R12): count, running
check, expected length, header or buffer, the spoiled and the noisy mark, and the gap timer loaded anew. A character that is
noisy and damaged spoils its frame and sets no noisy mark (log entry 12).
In a stored frame every data character stands in the buffer behind those already there, and nothing else of the pool
changes; of an unstored frame no buffer is written (R9).
What is said of a port says the same of the trunk's receive half and of a branch: the assembler, the receive side and settings,
the line and the count of noise; the line of a port whose frame has ended is QUIET with its quiet time, or IDLE with the take-up
of a setting (R116, R142, R145). At the end of a character a pin at space is the next leading edge (R160). -/
def Obligations.DataCharacterExtendsFrame : Prop :=
  let ended := fun (r : Receiver) => ({ r with char := none, edge := r.char.isSome && r.level == .space } : Receiver)
  (∀ (s : State) (b c : Branch) (p : BranchPort) (t : TrunkPort) (q : Pool) (a : Agent),
    (s.setBranch b p).branch c = (if c = b then p else s.branch c) ∧ { s.setBranch b p with branches := s.branches } = s ∧
    s.setTrunk t = { s with trunk := t } ∧ s.setPool q = { s with pool := q } ∧ s.setAgent a = { s with agent := a }) ∧
  (∀ (s : State) (x : Option Assembly) (f : Receiver → Receiver) (quiet : Nat),
    s.assembler .trunk = s.trunk.assembler ∧ s.receiver .trunk = s.trunk.receiver ∧
    s.receiveSettings .trunk = s.trunk.rxSettings ∧ (s.delivers .trunk = true ↔ s.trunk.line = .idle ∨ s.trunk.line = .hearing) ∧
    (s.isHearing .trunk = true ↔ s.trunk.line = .hearing) ∧ s.setAssembler .trunk x = s.setTrunk { s.trunk with assembler := x } ∧
    s.onReceiver .trunk f = s.setTrunk { s.trunk with receiver := f s.trunk.receiver } ∧
    s.hear .trunk = s.setTrunk { s.trunk with line := .hearing } ∧
    s.rest .trunk quiet = (s.setTrunk { s.trunk with line := .idle }).receiveAtRest ∧
    s.countNoise .trunk true = s.setTrunk (s.trunk.count .noisyChars) ∧ s.countNoise .trunk false = s) ∧
  (∀ (s : State) (b : Branch) (x : Option Assembly) (f : Receiver → Receiver) (quiet : Nat),
    let p := s.branch b
    s.assembler (.branch b) = p.assembler ∧ s.receiver (.branch b) = p.receiver ∧
    s.receiveSettings (.branch b) = p.settings ∧
    (s.delivers (.branch b) = true ↔ (∃ q, p.line = .quiet q) ∨ p.line = .hearing) ∧
    (s.isHearing (.branch b) = true ↔ p.line = .hearing) ∧ s.setAssembler (.branch b) x = s.setBranch b { p with assembler := x } ∧
    s.onReceiver (.branch b) f = s.setBranch b { p with receiver := f p.receiver } ∧
    s.hear (.branch b) = s.setBranch b { p with line := .hearing } ∧
    s.rest (.branch b) quiet = s.setBranch b { p with line := .quiet quiet } ∧
    s.countNoise (.branch b) true = s.setBranch b (p.count .noisyChars) ∧ s.countNoise (.branch b) false = s) ∧
  (∀ (a : Assembly) (v : Byte) (s : State),
    (a.store = none → s.storeChar a v = s) ∧
    (∀ n, a.store = some n → s.storeChar a v =
      s.setPool { s.pool with buffers := s.pool.buffers.set n { chars := s.chars n ++ [v], desc := s.desc n } })) ∧
  ∀ (p : Port) (v : Byte) (noisy damaged : Bool) (s : State) (a : Assembly), s.rstLow = false → s.delivers p = true →
    s.assembler p = some a → (a.expected = none ↔ a.count ≤ 2) → 1 ≤ a.count → (a.count = 2 → v.toNat ≤ 64) →
    a.expected ≠ some (a.count + 1) →
    ∃ t a', exec (.dataCharacter p v noisy damaged) s = .next t ∧ t.assembler p = some a' ∧ a'.store = a.store ∧
      a'.count = a.count + 1 ∧ a'.expected = (if a.count = 2 then some (5 + v.toNat) else a.expected) ∧
      a'.check = (if a.expected = some (a.count + 2) then a.check else crcChar a.check v) ∧
      a'.header = (if a.count ≤ 2 ∧ a.store = none then a.header ++ [v] else a.header) ∧ a'.last = v ∧
      a'.spoiled = (a.spoiled || damaged || (noisy && (s.receiveSettings p).format.noiseStrict)) ∧
      a'.noisy = (a.noisy || (noisy && !(s.receiveSettings p).format.noiseStrict && !damaged)) ∧
      a'.gap = some ((s.receiveSettings p).gapLimit * (s.receiveSettings p).ct) ∧
      t = (((((s.storeChar a v).setAssembler p (some a')).hear p).onReceiver p ended).countNoise p noisy).updateWaiting

/-- A LENGTH above 64 abandons the frame at that character, and the line is idle from it on (R9, R116, R145).
At CHECK LO a frame that is spoiled, by this character or before, or whose check does not match is abandoned; any other
is valid: FRAMES_IN is counted and the frame delivered to its owner (R12, R13).
What the owner is given (R13): of a stored frame the buffer with its descriptor filled, the length from the character count,
kind and sequence from CONTROL (R212), reference count 1, no route part; of an unstored frame its header. At the end of a
character a pin at space is the next leading edge (R160). -/
def Obligations.DataCharacterEndsFrame : Prop :=
  let ended := fun (r : Receiver) => ({ r with char := none, edge := r.char.isSome && r.level == .space } : Receiver)
  (∀ (p : Port) (v : Byte) (noisy damaged : Bool) (s : State) (a : Assembly), s.rstLow = false → s.delivers p = true →
       s.assembler p = some a → a.expected = none → a.count = 2 → 64 < v.toNat →
       exec (.dataCharacter p v noisy damaged) s = .next
         ((((((s.storeChar a v).abandon p a).rest p 0).onReceiver p ended).countNoise p noisy).updateWaiting)) ∧
  (∀ (p : Port) (v : Byte) (noisy damaged : Bool) (s : State) (a : Assembly), s.rstLow = false → s.delivers p = true →
       s.assembler p = some a → 4 ≤ a.count → a.expected = some (a.count + 1) →
       let spoiled := a.spoiled || damaged || (noisy && (s.receiveSettings p).format.noiseStrict)
       let u := s.storeChar a v
       let after := fun (w : State) => ((((w.rest p 0).onReceiver p ended).countNoise p noisy).updateWaiting)
       (spoiled = true ∨ a.check ≠ wordOf a.last v →
         exec (.dataCharacter p v noisy damaged) s = .next (after (u.abandon p a))) ∧
       let counted := match p with
         | .trunk => u.setTrunk (u.trunk.count .framesIn)
         | .branch b => u.setBranch b ((u.branch b).count .framesIn)
       (spoiled = false → a.check = wordOf a.last v →
         exec (.dataCharacter p v noisy damaged) s = .next
           (after ((counted.setAssembler p none).deliver p { a with count := a.count + 1 })))) ∧
  (∀ (s : State) (a : Assembly),
       (∀ n, a.store = some n →
         let control := charAt (s.chars n) 1
         let complete : Buffer :=
           { chars := s.chars n
             desc := { length := a.count, kind := controlKind control, seq := controlSeq control, refs := 1, route := none,
                       inAssembly := false } }
         let filled := s.setPool { s.pool with buffers := s.pool.buffers.set n complete }
         s.deliver .trunk a = filled.routeStored n ∧ ∀ b, s.deliver (.branch b) a = filled.judgeReply b n) ∧
       (a.store = none →
         let control := charAt a.header 1
         s.deliver .trunk a = s.routeUnstored (charAt a.header 0) (controlKind control) (controlSeq control) ∧
         ∀ b, s.deliver (.branch b) a = s.classify b (charAt a.header 0) (controlKind control) (controlSeq control))) ∧
  (∀ c : Byte, (controlSeq c).toNat = c.toNat % 32 ∧
       (controlKind c = .datagram ↔ c.toNat / 32 = 0) ∧ (controlKind c = .request ↔ c.toNat / 32 = 1) ∧
       (controlKind c = .reply ↔ c.toNat / 32 = 2) ∧ (controlKind c = .fault ↔ c.toNat / 32 = 3))

/-- An abandonment counts DAMAGED once and frees the buffer of a stored frame; on a branch the slot that was receiving it
fails its attempt with BAD_REPLY: below the attempt limit it goes back to READY with a reservation retaken, at the limit it
closes with a fault (R14, R56, R57, R96).
A buffer that is freed joins the tail of the free list (R93), with reference count 0 (R91); it keeps its characters and the rest
of its descriptor, which are not read (the model's choice, log entry 6). -/
def Obligations.AbandonmentEndsFrame : Prop :=
  (∀ (s : State) (n : BufferId), s.free? none = s ∧ s.free? (some n) = s.free n ∧
    s.free n = s.setPool { s.pool with
      buffers := s.pool.buffers.set n { chars := s.chars n, desc := { s.desc n with refs := 0 } }
      free := s.pool.free ++ [n] }) ∧
  (∀ (s : State) (a : Assembly), s.abandon .trunk a =
    ((s.setTrunk { s.trunk.count .damaged with assembler := none }).free? a.store)) ∧
  (∀ (b : Branch) (s : State) (a : Assembly), a.store = none →
    s.abandon (.branch b) a = s.setBranch b { (s.branch b).count .damaged with assembler := none }) ∧
  (∀ (b : Branch) (s : State) (a : Assembly) (n : BufferId) (x : Slot) (f : Option Nat), a.store = some n →
    (s.branch b).slot = some x → x.phase = .receiving n f →
    let u := (s.setBranch b { ((s.branch b).count .damaged).count .badReply with assembler := none }).free n
    (x.attempts < x.retries.val + 1 → s.abandon (.branch b) a =
      (u.setPool { u.pool with reserved := u.pool.reserved + 1 }).setBranch b
        { u.branch b with slot := some { x with phase := .ready, lastFailure := some .badReply } }) ∧
    (x.retries.val + 1 ≤ x.attempts → s.abandon (.branch b) a =
      u.closeSlot b { x with lastFailure := some .badReply } .badReply))

/-- A leading edge on a line that takes characters, with none in reception: the line is HEARING, a running gap timer stops,
and the character begins (R11, R156).
A false start counts nothing: outside a frame the line returns to QUIET with quiet time 0 or to IDLE; in a frame it stays
HEARING with the gap timer loaded again (R156). The character is dropped, and the line unit looks for a new leading edge from
the next tick.
A false start whose edge was the release of a branch driver is not named by R156: its line goes to QUIET with quiet time 0
as well (the model's choice, log entry 17). -/
def Obligations.StartBitAndFalseStart : Prop :=
  let dropped := fun (r : Receiver) => ({ r with char := none, edge := false } : Receiver)
  (∀ (p : Port) (s : State), s.rstLow = false → s.delivers p = true → (s.receiver p).char = none →
     (s.hear p).isHearing p = true ∧
     exec (.startBitLeadingEdge p) s = .next
       ((((s.setAssembler p ((s.assembler p).map fun a => { a with gap := none })).hear p).onReceiver p fun r =>
         { level := .space, space := max r.space 1, edge := false, char := some { count := 1, samples := [] } }).updateWaiting)) ∧
  (∀ (p : Port) (s : State), s.rstLow = false → s.isHearing p = true → (s.receiver p).char ≠ none →
       (s.assembler p = none →
         exec (.falseStart p) s = .next (((s.onReceiver p dropped).rest p 0).updateWaiting)) ∧
       (∀ a, s.assembler p = some a →
         exec (.falseStart p) s = .next
           (((s.onReceiver p dropped).setAssembler p
             (some { a with gap := some ((s.receiveSettings p).gapLimit * (s.receiveSettings p).ct) })).updateWaiting)))

/-- A character sent by one line unit is read by another of the same format: at its end the value and the mark bit are those
sent, and neither mark is set (R152, R153, R156 to R159).
What a transmission puts on its pin (R140, R152 to R154): 16 × (N + 1) cycles of REFCLK for each bit, the characters without
idle time, each with its start bit at space, its data bits from the least significant, the mark bit 1 for ADDRESS and 0 for
every later character, the parity bit over those nine, and stop bits at mark; mark after the last. BTX and TTX carry it, BTX is
at space through an emission (R161), and both are at mark otherwise. BDE is asserted while a branch sends and through an
emission, which is while its line is DRIVING or BREAK_OUT (R115, R163) or finishes a stopped character (R114). 1 ct is 16
sample ticks for each bit (R154), and a stopped transmission keeps only its character in progress (R122, R144).
What is read of a character (R157 to R159): a bit is mark where two or three of its samples 7, 8 and 9 are; it is noisy where
those of a bit differ, and damaged where the parity fails or a stop bit is at space. -/
def Obligations.SentCharacterIsReadBack : Prop :=
  (∀ (f : Format) (v : Byte) (m : Bool),
    let c := RxCharacter.ofLevels (sampleLevels f v m)
    c.ended f = true ∧ c.byte = v ∧ c.markBit = m ∧ c.isNoisy f = false ∧ c.isDamaged f = false ∧ c.value 0 = false) ∧
  (∀ (chars : List Byte) (ls : LineSettings),
    let bits := ls.format.bits
    let bitTime := 16 * (ls.divisor.toNat + 1)
    let after := fun (cycles : Nat) => Nat.iterate Transmission.cycle cycles (Transmission.start chars ls)
    let parityFrom := 10 + if ls.format.parity = .none then 0 else 1
    (∀ i j k, i < chars.length → j < bits → k < bitTime →
      let v := charAt chars i
      let ones := (List.range 8).countP (fun d => v.getLsbD d) + if i = 0 then 1 else 0
      let tx := after ((i * bits + j) * bitTime + k)
      tx.finished = false ∧ tx.sent = i ∧
      (tx.level = .mark ↔ (1 ≤ j ∧ j ≤ 8 ∧ v.getLsbD (j - 1) = true) ∨ (j = 9 ∧ i = 0) ∨
        (j = 10 ∧ ls.format.parity = .even ∧ ones % 2 = 1) ∨ (j = 10 ∧ ls.format.parity = .odd ∧ ones % 2 = 0) ∨ parityFrom ≤ j)) ∧
    (after (chars.length * bits * bitTime)).finished = true ∧ (after (chars.length * bits * bitTime)).level = .mark ∧
    ls.ct = 16 * bits ∧ ls.ctCycles = bits * bitTime) ∧
  (∀ tx : Transmission, tx.stop = tx.cutShort) ∧
  (∀ p : BranchPort,
    ((∃ k, p.line = .breakOut k) → p.transmitLevel = .space) ∧
    ((∀ k, p.line ≠ .breakOut k) → (p.sending = none → p.transmitLevel = .mark) ∧
      ∀ tx, p.sending = some tx → p.transmitLevel = tx.level) ∧
    (p.driverEnabled = true ↔ p.sending ≠ none ∨ ∃ k, p.line = .breakOut k) ∧
    (p.DrivesWhatItSends → (p.driverEnabled = true ↔ (∃ a, p.line = .driving a) ∨ (∃ k, p.line = .breakOut k) ∨
      ((p.line = .off ∨ ∃ c, p.line = .settling c) ∧ p.sending ≠ none)))) ∧
  (∀ p : TrunkPort,
    (p.transmitter = .idle ∨ (∃ left, p.transmitter = .spacing left) → p.transmitLevel = .mark) ∧
    (∀ tx, (p.transmitter = .stopping tx ∨ ∃ item, p.transmitter = .sending item tx) → p.transmitLevel = tx.level)) ∧
  (∀ (c : RxCharacter) (f : Format),
    let bit := fun (j : Nat) => (c.samples.drop (3 * j)).take 3
    let value := fun (j : Nat) => decide (2 ≤ (bit j).count .mark)
    let ones := (List.range 10).countP fun j => value (j + 1)
    let stopsFrom := 10 + if f.parity = .none then 0 else 1
    (∀ j, c.value j = value j) ∧ (∀ j, j < 8 → c.byte.getLsbD j = value (j + 1)) ∧ c.markBit = value 9 ∧
    (c.isNoisy f = true ↔ ∃ j, j < f.bits ∧ .mark ∈ bit j ∧ .space ∈ bit j) ∧
    (c.stopsAtMark f = true ↔ ∀ j, stopsFrom ≤ j → j < f.bits → value j = true) ∧
    (c.isDamaged f = true ↔
      (f.parity = .even ∧ ones % 2 = 1) ∨ (f.parity = .odd ∧ ones % 2 = 0) ∨ c.stopsAtMark f = false))

/-! ## The trunk router (Section 4) -/

/-- The WRONG_KIND discards of R70 and R72: freed, counted, and nothing else changes.
A DATAGRAM or REQUEST to the coupler address (R71): to the agent queue below 2 commands, taken at once when the queue
was empty (R171), with 16 ct of the trunk for COMMIT and 1 ct for any other (R172); else AGENT_BUSY, or a discard.
A fault is built over the REQUEST it answers: its frame, length 8, kind FAULT, reference count 1, no route part (R17, R89). -/
def Obligations.RouterClassifiesByAddressAndKind : Prop :=
  (∀ (s : State) (n : BufferId) (a : Byte) (q : Sequence) (r : FaultReason) (branch attempts : Nat),
    let fault : Buffer :=
      { chars := faultFrame a q r branch attempts
        desc := { s.desc n with length := 8, kind := .fault, refs := 1, route := none } }
    s.buildFault n a q r branch attempts = s.setPool { s.pool with buffers := s.pool.buffers.set n fault }) ∧
  (∀ (n : BufferId) (s : State),
       let a := charAt (s.chars n) 0
       let k := (s.desc n).kind
       (a = 0x00 ∨ (a = 0xFF ∧ k ≠ .datagram) ∨ (a ≠ 0x00 ∧ a ≠ 0xFF ∧ k ≠ .datagram ∧ k ≠ .request)) →
       s.routeStored n = (s.setTrunk (s.trunk.count .wrongKind)).free n) ∧
  (∀ (n : BufferId) (s : State), charAt (s.chars n) 0 = s.agent.coupler → s.agent.coupler ≠ 0x00 → s.agent.coupler ≠ 0xFF →
       ((s.desc n).kind = .request ∨ (s.desc n).kind = .datagram) →
       (s.agent.queue.length < 2 → ∃ left,
         s.routeStored n = s.setAgent { s.agent with queue := s.agent.queue ++ [n], left := left } ∧
         (s.agent.queue ≠ [] → left = s.agent.left) ∧ (s.agent.queue = [] → left = s.limitOf n)) ∧
       (2 ≤ s.agent.queue.length → (s.desc n).kind = .request →
         s.routeStored n =
           ((s.setTrunk (s.trunk.count .refused)).buildFault n (charAt (s.chars n) 0) (s.desc n).seq .agentBusy 0 0).appendUpstream
             (.frame n .nothing)) ∧
       (2 ≤ s.agent.queue.length → (s.desc n).kind = .datagram → s.routeStored n = (s.setTrunk (s.trunk.count .discarded)).free n))

/-- A DATAGRAM to FFh is distributed by reference to every branch that is OPEN, takes broadcasts and has room; every other
branch counts QUEUE_DROPS; with no taker the buffer is freed and DISCARDED counted (R74). -/
def Obligations.RouterDistributesBroadcast : Prop :=
  ∀ (n : BufferId) (s : State), charAt (s.chars n) 0 = 0xFF → (s.desc n).kind = .datagram →
    let takes := fun b => decide ((s.branch b).admission = .opened ∧ (s.branch b).broadcast = true ∧
      (s.branch b).queue.length < (s.branch b).queueLimit)
    let takers := (Branch.all.filter takes).length
    let t := s.routeStored n
    (∀ b, takes b = true → t.branch b = { s.branch b with queue := (s.branch b).queue ++ [n] }) ∧
    (∀ b, takes b = false → t.branch b = (s.branch b).count .queueDrops) ∧
    (takers ≠ 0 → t.chars n = s.chars n ∧ t.desc n = { s.desc n with refs := takers } ∧ t.trunk = s.trunk ∧
      t.pool.free = s.pool.free) ∧
    (takers = 0 → t.trunk = s.trunk.count .discarded ∧ t.pool.free = s.pool.free ++ [n]) ∧
    (∀ m, m ≠ n → t.buffer m = s.buffer m) ∧ t.agent = s.agent ∧ t.map = s.map

/-- A stored DATAGRAM or REQUEST to a station is decided by the first of the four tests that applies, in their order (R76 to
R80); a refused REQUEST is answered by a router fault, a refused DATAGRAM freed and counted in DISCARDED (R83).
A station frame that passes the four tests is rewritten to L, a REQUEST takes its route part, and the buffer joins the
tail of the branch queue (R20, R81).
The lookup gives a valid entry of ACTIVE whose trunk window holds the address, the only one in a table that satisfies R23,
and nothing exactly when there is none (R24); an entry admits a REQUEST unless its admit field is 2, and a DATAGRAM unless it
is 1 (R78). -/
def Obligations.RouterDecidesStationFrames : Prop :=
  (∀ (n : BufferId) (s : State),
       let a := charAt (s.chars n) 0
       let k := (s.desc n).kind
       a ≠ 0x00 → a ≠ 0xFF → a ≠ s.agent.coupler → (k = .request ∨ k = .datagram) →
       let refused := fun (u : State) (r : FaultReason) (branch : Nat) =>
         if k = .request then
           ((u.setTrunk (u.trunk.count .refused)).buildFault n a (s.desc n).seq r branch 0).appendUpstream (.frame n .nothing)
         else (u.setTrunk (u.trunk.count .discarded)).free n
       let atBranch := fun (b : Branch) => if k = .request then s else s.setBranch b ((s.branch b).count .queueDrops)
       (s.map.lookup a = none → s.routeStored n = refused (s.setTrunk (s.trunk.count .unrouted)) .unrouted 0) ∧
       (∀ e, s.map.lookup a = some e →
         (e.admits k = false → s.routeStored n = refused s .kindBarred e.branch.number) ∧
         (e.admits k = true → (s.branch e.branch).admission ≠ .opened →
           s.routeStored n = refused (atBranch e.branch) .parked e.branch.number) ∧
         (e.admits k = true → (s.branch e.branch).admission = .opened →
           (s.branch e.branch).queueLimit ≤ (s.branch e.branch).queue.length →
           s.routeStored n = refused (atBranch e.branch) .queueFull e.branch.number))) ∧
  (∀ (n : BufferId) (s : State) (e : RouteEntry),
       let a := charAt (s.chars n) 0
       let k := (s.desc n).kind
       a ≠ 0x00 → a ≠ 0xFF → a ≠ s.agent.coupler → (k = .request ∨ k = .datagram) → s.map.lookup a = some e → e.admits k = true →
       (s.branch e.branch).admission = .opened → (s.branch e.branch).queue.length < (s.branch e.branch).queueLimit →
       let l := e.localBase + (a - e.trunkBase)
       let route : RoutePart := { trunkAddress := a, localAddress := l, retries := e.retries, replyLimit := e.replyLimit }
       let routed : Buffer :=
         { chars := withCheck (l :: ((s.chars n).drop 1).take ((s.chars n).length - 3))
           desc := { s.desc n with refs := 1, route := if k = .request then some route else none } }
       s.routeStored n =
         (s.setPool { s.pool with buffers := s.pool.buffers.set n routed }).setBranch e.branch
           { s.branch e.branch with queue := (s.branch e.branch).queue ++ [n] }) ∧
  (∀ (s : State) (a : Byte),
       let holds := fun (i : Fin 16) => (s.map.active.get i).valid = true ∧ (s.map.active.get i).trunkBase.toNat ≤ a.toNat ∧
         a.toNat < (s.map.active.get i).trunkBase.toNat + 2 ^ (s.map.active.get i).sizeCode.val
       (s.map.lookup a = none ↔ ∀ i, ¬ holds i) ∧ (∀ e, s.map.lookup a = some e → ∃ i, s.map.active.get i = e ∧ holds i) ∧
       (s.MapSound → ∀ i, holds i → s.map.lookup a = some (s.map.active.get i))) ∧
  (∀ e : RouteEntry, (e.admits .request = true ↔ e.accepts.code ≠ 2) ∧ (e.admits .datagram = true ↔ e.accepts.code ≠ 1) ∧
       (e.accepts.code = 1 ∨ e.accepts.code = 2 ∨ e.accepts.code = 3))

/-- A valid unstored trunk frame is decided on its header (R84, R85): a REQUEST to a station or the coupler makes a refusal
record with its item, or counts REFUSAL_LOST when the store is full; any other frame is forgotten. -/
def Obligations.UnstoredRequestMakesRefusalRecord : Prop :=
  ∀ (a : Byte) (k : Kind) (q : Sequence) (s : State),
    let record : RefusalRecord := { trunkAddress := a, seq := q }
    (k = .request → a ≠ 0x00 → a ≠ 0xFF → s.trunk.refusals.length < 4 →
      s.routeUnstored a k q = (s.setTrunk { s.trunk with refusals := s.trunk.refusals ++ [record] }).appendUpstream (.refusal record)) ∧
    (k = .request → a ≠ 0x00 → a ≠ 0xFF → 4 ≤ s.trunk.refusals.length →
      s.routeUnstored a k q = s.setTrunk (s.trunk.count .refusalLost)) ∧
    (k ≠ .request ∨ a = 0x00 ∨ a = 0xFF → s.routeUnstored a k q = s) ∧
    s.itemChars (.refusal record) = faultFrame a q .noBuffer 0 0

/-! ## The upstream queue and the pool (Sections 5 and 7) -/

/-- An item joins behind everything bound for the master, an IDLE transmitter takes the head of the queue in the same event,
any other keeps what it does, and nothing else changes (R135, R138, R139). Bound for the master are the item being sent and
the queue behind it; of a buffer as many characters are sent as its descriptor gives, from ADDRESS on (R140). -/
def Obligations.AppendUpstreamKeepsOrder : Prop :=
  (∀ (s : State) (n : BufferId) (c : Carry), s.itemChars (.frame n c) = (s.chars n).take (s.desc n).length) ∧
  (∀ s : State, ((∀ item tx, s.trunk.transmitter ≠ .sending item tx) → s.trunkItems = s.trunk.upstream) ∧
    ∀ item tx, s.trunk.transmitter = .sending item tx → s.trunkItems = item :: s.trunk.upstream) ∧
  ∀ (item : UpItem) (s : State),
    let t := s.appendUpstream item
    t.trunkItems = s.trunkItems ++ [item] ∧
    (s.trunk.transmitter ≠ .idle → t = s.setTrunk { s.trunk with upstream := s.trunk.upstream ++ [item] }) ∧
    (s.trunk.transmitter = .idle → s.trunk.upstream = [] →
      t = s.setTrunk { s.trunk with transmitter := .sending item (Transmission.start (s.itemChars item) s.trunk.txSettings) }) ∧
    t = s.setTrunk { s.trunk with upstream := t.trunk.upstream, transmitter := t.trunk.transmitter }

/-- The waiting set follows from every event (R97): exactly the branches that meet the four conditions, those that stayed
first and in their order, those that join behind them in ascending number; nothing else changes. -/
def Obligations.WaitingSetFollowsEveryEvent : Prop :=
  ∀ s : State, ∃ stay join, s.updateWaiting = s.setPool { s.pool with waiting := stay ++ join } ∧
    stay = s.pool.waiting.filter s.eligible ∧ join.Sublist Branch.all ∧
    (∀ b, b ∈ stay ++ join ↔ s.eligible b = true) ∧
    (∀ b, s.eligible b = true ↔ (∃ n rest, (s.branch b).queue = n :: rest ∧ (s.desc n).kind = .request) ∧
      (s.branch b).slot = none ∧ (s.branch b).admission ≠ .closed ∧ (s.branch b).line ≠ .off)

/-- An increment adds 1 up to 65535 and stays there; every count of an error-class counter sets the port's summary flag,
a saturated one too, and a count of any other leaves it (R200, R201).
The class of each counter and its place in its port's report (R199): of a branch FRAMES_IN, FRAMES_OUT, REPLIES and RETRIES
are of the traffic class, of port 0 FRAMES_IN, FRAMES_OUT and MGMT_COMMANDS, and every other is of the error class. -/
def Obligations.CountsSaturateAndSetFlags : Prop :=
  (∀ w : Word, (saturate w).toNat = min (w.toNat + 1) 65535) ∧
  (∀ (p : BranchPort) (c d : BranchCounter),
    (p.count c).counter d = (if d = c then saturate (p.counter d) else p.counter d) ∧
    (p.count c).counters.flag = (p.counters.flag || c.isError) ∧ { p.count c with counters := p.counters } = p) ∧
  (∀ (t : TrunkPort) (c d : TrunkCounter),
    (t.count c).counter d = (if d = c then saturate (t.counter d) else t.counter d) ∧
    (t.count c).counters.flag = (t.counters.flag || c.isError) ∧ { t.count c with counters := t.counters } = t) ∧
  (∀ c : BranchCounter, c.isError = false ↔ c = .framesIn ∨ c = .framesOut ∨ c = .replies ∨ c = .retries) ∧
  (∀ c : TrunkCounter, c.isError = false ↔ c = .framesIn ∨ c = .framesOut ∨ c = .mgmtCommands) ∧
  [BranchCounter.framesIn, .framesOut, .damaged, .noisyChars, .orphanChars, .breaks, .replies, .noReply, .badReply, .retries,
    .faults, .stray, .late, .stale, .jams, .queueDrops].map BranchCounter.index = List.finRange 16 ∧
  [TrunkCounter.framesIn, .framesOut, .damaged, .noisyChars, .orphanChars, .breaks, .unrouted, .refused, .discarded, .noBuffer,
    .refusalLost, .wrongKind, .mgmtCommands].map TrunkCounter.index = List.finRange 13

/-- No counter falls at any event but a power-on reset, a READ_COUNTERS with clear 1, and the events at which a restart takes
effect: the end of the transmission that carries it, a trunk line reset while it is pending, and the completion of a RESTART
that is not answered (R200, R205, R207). -/
def Obligations.CountersFallOnlyByClearing : Prop :=
  ∀ (s t : State) (i : Instr), exec i s = .next t → (∀ sa tr, i ≠ .powerOnReset sa tr) →
    (i = .readCounters → ∀ n rest p, s.Executing .readCounters n rest → commandOperands (s.chars n) ≠ [byteOf (portNumber p), 1]) →
    (i = .transmissionEnd → ∀ n tx, s.trunk.transmitter ≠ .sending (.frame n .restart) tx) →
    (i = .trunkLineReset → s.agent.restartPending = false) →
    (i = .restart → ∀ n rest, s.Executing .restart n rest → commandOperands (s.chars n) = [] → s.agent.restartPending = false →
      s.Answers n) →
    CountersRise s t

/-! ## Reply slots (Section 3) -/

/-- A grant goes to the waiting branch of highest grant level, and among equal levels to the one that joined first (R99).
GRANT (R98, R44): with an unreserved buffer free, the branch granted to has its head REQUEST moved into its slot, READY,
with T, L and the limits of the route part and attempts 0, and one more reservation is held. -/
def Obligations.GrantOpensSlotOfHighestLevel : Prop :=
  (∀ s : State, s.WaitingSettled → s.pool.waiting ≠ [] → ∃ b before after, s.grantee = some b ∧
       s.pool.waiting = before ++ b :: after ∧ (∀ c ∈ before, (s.branch c).grantLevel < (s.branch b).grantLevel) ∧
       (∀ c ∈ after, (s.branch c).grantLevel ≤ (s.branch b).grantLevel)) ∧
  (∀ (s : State) (b : Branch) (n : BufferId) (rest : List BufferId) (r : RoutePart), s.rstLow = false →
       s.pool.reserved < s.pool.free.length → s.grantee = some b → (s.branch b).queue = n :: rest → (s.desc n).route = some r →
       exec .grant s = .next
         (((s.setPool { s.pool with reserved := s.pool.reserved + 1 }).setBranch b { s.branch b with
           queue := rest
           slot := some { phase := .ready, request := n, trunkAddress := r.trunkAddress, localAddress := r.localAddress,
                          seq := (s.desc n).seq, retries := r.retries, replyLimit := r.replyLimit, attempts := 0,
                          lastFailure := none } }).updateWaiting))

/-- SEND_START (R45): attempts rises by 1, RETRIES is counted from the second on, the slot is SENDING and the line drives the
request buffer from ADDRESS to CHECK LO; the sample ticks count anew (the model's choice, log entry 5). A QUIET line reaches the turnaround gap first (the model's choice, log entry 3). -/
def Obligations.SendStartDrivesRequest : Prop :=
  ∀ (s : State) (b : Branch) (x : Slot) (q : Nat), s.rstLow = false → (s.branch b).slot = some x → x.phase = .ready →
    (s.branch b).line = .quiet q →
    exec (.sendStart b) s = .next
      ((s.setBranch b { s.branch b with
        slot := some { x with phase := .sending, attempts := x.attempts + 1 }
        line := .driving .frame
        sending := some (Transmission.start ((s.chars x.request).take (s.desc x.request).length) (s.branch b).settings)
        receiver := Receiver.fresh
        phase := 0
        counters := (if 2 ≤ x.attempts + 1 then (s.branch b).count .retries else s.branch b).counters }).updateWaiting)

/-- END_OF_TRANSMISSION (R47): FRAMES_OUT is counted, the driver released, the slot WAITING with its timer loaded with
2 × reply limit ct, and the line QUIET with quiet time 0; with the pin at space at the release that tick is a leading edge
instead, and the line HEARING (R117, R163). What is being sent goes on to its end first (the model's choice, log entry 3). -/
def Obligations.EndOfTransmissionStartsWait : Prop :=
  ∀ (s : State) (b : Branch) (x : Slot) (tx : Transmission), s.rstLow = false → (s.branch b).slot = some x →
    x.phase = .sending → (s.branch b).line = .driving .frame → (s.branch b).sending = some tx →
    let heard : LineState × Receiver := match (s.branch b).receiver.level with
      | .mark => (.quiet 0, { level := .mark, space := 0, edge := false, char := none })
      | .space => (.hearing, { level := .space, space := 1, edge := false, char := some { count := 1, samples := [] } })
    ∃ t, exec (.endOfTransmission b) s = .next t ∧ (t.branch b).driverEnabled = false ∧
      t = (s.setBranch b { s.branch b with
        slot := some { x with phase := .waiting (2 * x.replyLimit.toNat * (s.branch b).settings.ct) }
        line := heard.1, sending := none, receiver := heard.2
        counters := ((s.branch b).count .framesOut).counters }).updateWaiting

/-- REPLY_TIMER_EXPIRY (R51, R57): NO_REPLY is counted; below the attempt limit the slot goes to READY with the reservation
it held, at the limit it closes with NO_REPLY. A running timer runs out first (the model's choice, log entry 3). -/
def Obligations.ReplyTimerExpiryRetriesOrCloses : Prop :=
  ∀ (s : State) (b : Branch) (x : Slot) (left : Nat), s.rstLow = false → (s.branch b).slot = some x → x.phase = .waiting left →
    let u := s.setBranch b ((s.branch b).count .noReply)
    (x.attempts < x.retries.val + 1 →
      exec (.replyTimerExpiry b) s = .next
        ((u.setBranch b { u.branch b with slot := some { x with phase := .ready, lastFailure := some .noReply } }).updateWaiting)) ∧
    (x.retries.val + 1 ≤ x.attempts →
      exec (.replyTimerExpiry b) s = .next ((u.closeSlot b { x with lastFailure := some .noReply } .noReply).updateWaiting))

/-- The close of a slot with a fault (R58): the fault frame over the request, to the tail of the upstream queue; the
reservation released if held; FAULTS; the last-closed record; EMPTY. -/
def Obligations.SlotClosesWithFault : Prop :=
  ∀ (s : State) (b : Branch) (x : Slot) (r : FaultReason),
    let fault : Buffer :=
      { chars := faultFrame x.trunkAddress x.seq r b.number x.attempts
        desc := { s.desc x.request with length := 8, kind := .fault, refs := 1, route := none } }
    let held := x.phase = .ready ∨ x.phase = .sending ∨ ∃ left, x.phase = .waiting left
    ∃ reserved, (held → reserved = s.pool.reserved - 1) ∧ (¬ held → reserved = s.pool.reserved) ∧
      s.closeSlot b x r =
        ((s.setPool { s.pool with buffers := s.pool.buffers.set x.request fault, reserved := reserved }).appendUpstream
          (.frame x.request .nothing)).setBranch b { s.branch b with
            slot := none
            lastClosed := some { localAddress := x.localAddress, seq := x.seq }
            counters := ((s.branch b).count .faults).counters }

/-- The judging of a stored frame at its completion (R53 to R55, R59): a REPLY or FAULT with the slot's sequence is accepted,
rewritten to T and appended upstream, its request freed; another sequence is STALE, another kind STRAY, and the slot goes
back to WAITING with its frozen timer, or to READY when it had none. The rewrite puts T in place of ADDRESS and makes the check
anew (R16).
A valid unstored branch frame is LATE when it is a REPLY or FAULT that matches the last-closed record, and STRAY
otherwise; nothing else changes (R60). -/
def Obligations.BranchFrameIsJudged : Prop :=
  (∀ (s : State) (n : BufferId) (a : Byte),
    let frame : Buffer := { chars := withCheck (a :: ((s.chars n).drop 1).take ((s.chars n).length - 3)), desc := s.desc n }
    s.rewrite n a = s.setPool { s.pool with buffers := s.pool.buffers.set n frame }) ∧
  (∀ (s : State) (b : Branch) (x : Slot) (n : BufferId) (frozen : Option Nat), (s.branch b).slot = some x →
       x.phase = .receiving n frozen →
       let answer := (s.desc n).kind = .reply ∨ (s.desc n).kind = .fault
       let back : SlotPhase := match frozen with
         | some left => .waiting left
         | none => .ready
       let rejected := fun (c : BranchCounter) =>
         let u := (s.setBranch b { (s.branch b).count c with slot := some { x with phase := back } }).free n
         u.setPool { u.pool with reserved := u.pool.reserved + 1 }
       (answer → (s.desc n).seq = x.seq →
         s.judgeReply b n =
           (((s.rewrite n x.trunkAddress).appendUpstream (.frame n .nothing)).free x.request).setBranch b { s.branch b with
             slot := none
             lastClosed := some { localAddress := x.localAddress, seq := x.seq }
             counters := ((s.branch b).count .replies).counters }) ∧
       (answer → (s.desc n).seq ≠ x.seq → s.judgeReply b n = rejected .stale) ∧
       (¬ answer → s.judgeReply b n = rejected .stray)) ∧
  (∀ (s : State) (b : Branch) (a : Byte) (k : Kind) (q : Sequence),
       let late := (k = .reply ∨ k = .fault) ∧ (s.branch b).lastClosed = some { localAddress := a, seq := q }
       (late → s.classify b a k q = s.setBranch b ((s.branch b).count .late)) ∧
       (¬ late → s.classify b a k q = s.setBranch b ((s.branch b).count .stray)))

/-! ## Branch ports (Section 6) -/

/-- DATAGRAM_START (R121): the head DATAGRAM leaves the queue for the transmitter, and the line drives its frame, the sample
ticks counting anew (the model's choice, log entry 5).
DATAGRAM_END (R122, R91): FRAMES_OUT is counted, the reference released, and the buffer freed by the last one; the driver
is released and the line QUIET with quiet time 0, or HEARING with the pin at space at the release (R163). The turnaround gap and the transmission run to their end first
(the model's choice, log entry 3). -/
def Obligations.DatagramStartAndEnd : Prop :=
  (∀ (s : State) (b : Branch) (n : BufferId) (rest : List BufferId) (q : Nat), s.rstLow = false →
       (s.branch b).queue = n :: rest → (s.desc n).kind = .datagram → (s.branch b).slot = none → (s.branch b).line = .quiet q →
       exec (.datagramStart b) s = .next
         ((s.setBranch b { s.branch b with
           queue := rest
           datagram := some n
           line := .driving .frame
           sending := some (Transmission.start ((s.chars n).take (s.desc n).length) (s.branch b).settings)
           receiver := Receiver.fresh
           phase := 0 }).updateWaiting)) ∧
  (∀ (s : State) (b : Branch) (n : BufferId) (tx : Transmission), s.rstLow = false → (s.branch b).datagram = some n →
       (s.branch b).line = .driving .frame → (s.branch b).sending = some tx →
       let heard : LineState × Receiver := match (s.branch b).receiver.level with
         | .mark => (.quiet 0, { level := .mark, space := 0, edge := false, char := none })
         | .space => (.hearing, { level := .space, space := 1, edge := false, char := some { count := 1, samples := [] } })
       let u := s.setBranch b { s.branch b with
         datagram := none, line := heard.1, sending := none, receiver := heard.2
         counters := ((s.branch b).count .framesOut).counters }
       let released := fun (m : BufferId) => ({ chars := s.chars m, desc := { s.desc m with refs := (s.desc m).refs - 1 } } : Buffer)
       (1 < (s.desc n).refs → exec (.datagramEnd b) s = .next
         ((u.setPool { u.pool with buffers := u.pool.buffers.set n (released n) }).updateWaiting)) ∧
       ((s.desc n).refs ≤ 1 → exec (.datagramEnd b) s = .next ((u.free n).updateWaiting)))

/-- BREAK (R117, R61): BREAKS, the frame in assembly abandoned without BAD_REPLY, the line in BREAK_IN with its jam timer at
0; a slot that has sent its request closes with LINE_BREAK, any other is not touched. A break is heard from QUIET, HEARING and
SETTLING (R117, R160), and a held character is not delivered (R159). -/
def Obligations.BreakClosesSentSlot : Prop :=
  (∀ l : LineState, l.hearsBreak = true ↔ (∃ q, l = .quiet q) ∨ l = .hearing ∨ ∃ c, l = .settling c) ∧
  ∀ (s : State) (b : Branch), s.rstLow = false → (s.branch b).line.hearsBreak = true → (s.branch b).sending = none →
    let counted := (s.branch b).count .breaks
    let u := match (s.branch b).assembler with
      | none => s.setBranch b counted
      | some a => (s.setBranch b { counted.count .damaged with assembler := none }).free? a.store
    let after := fun (w : State) => (w.setBranch b { w.branch b with
      line := .breakIn 0
      receiver := { level := .space, space := (w.branch b).receiver.space, edge := false, char := none } }).updateWaiting
    (∀ x, (s.branch b).slot = some x →
      ((x.phase = .ready ∧ 1 ≤ x.attempts) ∨ (∃ left, x.phase = .waiting left) ∨ (∃ n f, x.phase = .receiving n f)) →
      exec (.breakHeard b) s = .next (after (u.closeSlot b x .lineBreak))) ∧
    ((∀ x, (s.branch b).slot = some x → (x.phase = .ready ∧ x.attempts = 0) ∨ x.phase = .sending) →
      exec (.breakHeard b) s = .next (after u))

/-- The flush of a branch (R64, R111, R112): the slot's ABORTED fault goes upstream first, then one ABORTED fault for each queued
REQUEST in queue order, to T of its route part with attempts 0; the queue, slot, assembler and transmitter hold nothing. An open slot counts FAULTS and leaves its L and sequence
as the last-closed record (R58, R64); nothing else of the branch changes.
The pool (R91, R93, R105): the reply buffer joins the free list, then the queued DATAGRAMs at their last reference, in queue
order, then the transmitter's (R111); every other DATAGRAM keeps one reference less; the slot's reservation is released if it
held one. A transmitter's reference and a reply buffer are never one buffer (R111). A slot holds a reply buffer in RECEIVING
alone (R41). -/
def Obligations.FlushAnswersInQueueOrder : Prop :=
  (∀ (ph : SlotPhase) (n : BufferId), ph.replyBuffer = some n ↔ ∃ f, ph = .receiving n f) ∧
  ∀ (s : State) (b : Branch), (s.branch b).queue.Nodup →
    (∀ x, (s.branch b).slot = some x → x.request ∉ (s.branch b).queue ∧
      ∀ n, x.phase.replyBuffer = some n → n ≠ x.request ∧ n ∉ (s.branch b).queue) →
    (∀ n, (s.branch b).datagram = some n → n ∉ (s.branch b).queue ∧
      ∀ x, (s.branch b).slot = some x → x.request ≠ n) →
    (∀ n ∈ (s.branch b).queue, (s.desc n).kind = .request → (s.desc n).route ≠ none) →
    let t := s.flush b
    let requests := (s.branch b).queue.filter fun n => decide ((s.desc n).kind = .request)
    t.trunkItems = s.trunkItems ++ ((s.branch b).slot.toList.map fun x => UpItem.frame x.request .nothing)
      ++ requests.map (fun n => .frame n .nothing) ∧
    (∀ x, (s.branch b).slot = some x →
      t.chars x.request = faultFrame x.trunkAddress x.seq .aborted b.number x.attempts) ∧
    (∀ n ∈ requests, ∀ r, (s.desc n).route = some r →
      t.chars n = faultFrame r.trunkAddress (s.desc n).seq .aborted b.number 0 ∧ (t.desc n).kind = .fault) ∧
    (t.branch b).queue = [] ∧ (t.branch b).slot = none ∧ (t.branch b).assembler = none ∧ (t.branch b).datagram = none ∧
    (t.branch b).admission = (s.branch b).admission ∧ (t.branch b).line = (s.branch b).line ∧
    (∀ x, (s.branch b).slot = some x → t.branch b = { s.branch b with
      queue := [], slot := none, assembler := none, datagram := none
      lastClosed := some { localAddress := x.localAddress, seq := x.seq }
      counters := ((s.branch b).count .faults).counters }) ∧
    ((s.branch b).slot = none → t.branch b = { s.branch b with queue := [], assembler := none, datagram := none }) ∧
    (∀ c, c ≠ b → t.branch c = s.branch c) ∧ t.map = s.map ∧ t.agent = s.agent ∧
    ((∀ x n, (s.branch b).slot = some x → x.phase.replyBuffer = some n → (s.branch b).datagram ≠ some n) →
      let reply := (s.branch b).slot.toList.flatMap fun x => x.phase.replyBuffer.toList
      let references := ((s.branch b).queue.filter fun n => decide ((s.desc n).kind ≠ .request)) ++ (s.branch b).datagram.toList
      let held := ∃ x, (s.branch b).slot = some x ∧
        (x.phase = .ready ∨ x.phase = .sending ∨ ∃ left, x.phase = .waiting left)
      t.pool.free = s.pool.free ++ reply ++ references.filter (fun n => decide ((s.desc n).refs ≤ 1)) ∧
      (∀ n ∈ references, 1 < (s.desc n).refs →
        t.buffer n = { chars := s.chars n, desc := { s.desc n with refs := (s.desc n).refs - 1 } }) ∧
      (held → t.pool.reserved = s.pool.reserved - 1) ∧ (¬ held → t.pool.reserved = s.pool.reserved))

/-- JAM (R124): JAMS is counted, the branch becomes CLOSED and is flushed as for a close, and its line goes OFF. The jam
timer runs to 256 ct first (the model's choice, log entry 3). -/
def Obligations.JamClosesBranch : Prop :=
  ∀ (s : State) (b : Branch) (j : Nat), s.rstLow = false → (s.branch b).line = .breakIn j →
    let u := (s.setBranch b { (s.branch b).count .jams with admission := .closed }).flush b
    exec (.jam b) s = .next
      ((u.setBranch b { u.branch b with
        line := .off, sending := (u.branch b).sending.map Transmission.stop, receiver := Receiver.fresh }).updateWaiting)

/-- The ends of a break, of a settling and of an emission (R118, R145, R162, R119, R120): BREAK_IN goes to SETTLING, SETTLING
to QUIET with quiet time 0 or IDLE, BREAK_OUT to SETTLING with the driver released; nothing is counted.
The end of a stopped character (R114, R120, R129, R144): the trunk goes to SPACING; a branch goes on to the emission or
the settling its stop ordered, or stays OFF with the driver released, or starts settling anew when it was reopened. The time
that an event waits for passes first (the model's choice, log entry 3). A receive side that starts anew has seen nothing, with
its pin taken to be at mark. -/
def Obligations.LineEventsMoveLineState : Prop :=
  Receiver.fresh = { level := .mark, space := 0, edge := false, char := none } ∧
  ((∀ (s : State) (b : Branch) (j : Nat), s.rstLow = false → (s.branch b).line = .breakIn j →
       exec (.breakEnd (.branch b)) s = .next
         ((s.setBranch b { s.branch b with line := .settling 0, receiver := Receiver.fresh }).updateWaiting)) ∧
     (∀ s : State, s.rstLow = false → s.trunk.line = .breakIn →
       exec (.breakEnd .trunk) s = .next
         ((s.setTrunk { s.trunk with line := .settling 0, receiver := Receiver.fresh }).updateWaiting)) ∧
     (∀ (s : State) (b : Branch) (c : Nat), s.rstLow = false → (s.branch b).line = .settling c → (s.branch b).sending = none →
       exec (.settlingEnd (.branch b)) s = .next
         ((s.setBranch b { s.branch b with line := .quiet 0, receiver := Receiver.fresh }).updateWaiting)) ∧
     (∀ (s : State) (c : Nat), s.rstLow = false → s.trunk.line = .settling c →
       exec (.settlingEnd .trunk) s = .next
         ((s.setTrunk { s.trunk with line := .idle, receiver := Receiver.fresh }).updateWaiting)) ∧
     (∀ (s : State) (b : Branch) (k : Nat), s.rstLow = false → (s.branch b).line = .breakOut k →
       exec (.breakEmissionEnd b) s = .next
         ((s.setBranch b { s.branch b with line := .settling 0, receiver := Receiver.fresh }).updateWaiting))) ∧
  ((∀ (s : State) (tx : Transmission), s.rstLow = false → s.trunk.transmitter = .stopping tx →
       exec (.stoppedCharacterEnd .trunk) s = .next
         ((s.setTrunk { s.trunk with transmitter := .spacing s.trunk.txSettings.ctCycles }).updateWaiting)) ∧
     (∀ (s : State) (b : Branch) (tx : Transmission), s.rstLow = false → (s.branch b).sending = some tx →
       let done := fun (line : LineState) (r : Receiver) =>
         exec (.stoppedCharacterEnd (.branch b)) s = .next
           ((s.setBranch b { s.branch b with line := line, sending := none, receiver := r }).updateWaiting)
       ((s.branch b).line = .driving .emission → done (.breakOut (3 * (s.branch b).settings.ct)) Receiver.fresh) ∧
       ((s.branch b).line = .driving .settle → done (.settling 0) Receiver.fresh) ∧
       ((s.branch b).line = .off → done .off (s.branch b).receiver) ∧
       (∀ c, (s.branch b).line = .settling c → done (.settling 0) Receiver.fresh)))

/-! ## The trunk side (Section 7) -/

/-- SPACING_END (R138, R139): the head of the upstream queue is taken and its transmission starts at the transmit settings in
force, or the transmitter is IDLE.
TRANSMISSION_END (R141): FRAMES_OUT, the item's release, what it carries taking effect, and SPACING in ct of the transmit
settings as they then stand, after a carried restart too (R142, R155; log entry 13). The spacing and the transmission run
to their end first (the model's choice, log entry 3). Of a buffer as many characters are sent as its descriptor gives, from
ADDRESS on; of a refusal record its NO_BUFFER fault frame (R140, R17). -/
def Obligations.TrunkTransmitterSendsInOrder : Prop :=
  (∀ (s : State) (n : BufferId) (c : Carry), s.itemChars (.frame n c) = (s.chars n).take (s.desc n).length) ∧
  (∀ (s : State) (r : RefusalRecord), s.itemChars (.refusal r) = faultFrame r.trunkAddress r.seq .noBuffer 0 0) ∧
  (∀ (s : State) (left : Nat), s.rstLow = false → s.trunk.transmitter = .spacing left →
       (s.trunk.upstream = [] →
         exec .spacingEnd s = .next ((s.setTrunk { s.trunk with transmitter := .idle }).updateWaiting)) ∧
       (∀ item rest, s.trunk.upstream = item :: rest →
         exec .spacingEnd s = .next
           ((s.setTrunk { s.trunk with
             upstream := rest
             transmitter := .sending item (Transmission.start (s.itemChars item) s.trunk.txSettings) }).updateWaiting))) ∧
  (∀ (s : State) (item : UpItem) (tx : Transmission), s.rstLow = false → s.trunk.transmitter = .sending item tx →
       let counted := { s.trunk.count .framesOut with transmitter := TrunkTransmitter.spacing s.trunk.txSettings.ctCycles }
       let u := s.setTrunk counted
       let done := fun (w : State) =>
         exec .transmissionEnd s = .next
           ((w.setTrunk { w.trunk with transmitter := .spacing w.trunk.txSettings.ctCycles }).updateWaiting)
       (∀ n, item = .frame n .nothing → done (u.free n)) ∧
       (∀ n, item = .frame n .setting → done (u.free n).settingTakesEffect) ∧
       (∀ n, item = .frame n .restart → done (u.free n).restartTakesEffect) ∧
       (∀ r, item = .refusal r → done (u.setTrunk { counted with refusals := counted.refusals.erase r })))

/-- A pending trunk setting that takes effect (R142, R187): the transmit half takes it up, and the receive half too when it is
at rest, a settling starting anew in the new ct; otherwise the setting is being taken up, until the first event that
brings the receive half to rest. Nothing else changes, which is the model's choice where the spec is silent: a break measure
that runs on a SETTLING or an IDLE line keeps its ticks (log entry 15), the sample ticks keep the cycles counted (log entry 5), and a
frame on TTX keeps the settings it began with (log entry 8). -/
def Obligations.PendingSettingTakesEffect : Prop :=
  (∀ (s : State) (ls : LineSettings), s.agent.pendingSetting = some { settings := ls, phase := .awaiting } →
    ((s.trunk.line ≠ .hearing ∧ s.trunk.assembler = none) → ∃ line, s.settingTakesEffect =
      (s.setTrunk { s.trunk with txSettings := ls, rxSettings := ls, line := line }).setAgent { s.agent with pendingSetting := none } ∧
      ((∃ c, s.trunk.line = .settling c) → line = .settling 0) ∧ ((∀ c, s.trunk.line ≠ .settling c) → line = s.trunk.line)) ∧
    ((s.trunk.line = .hearing ∨ s.trunk.assembler ≠ none) → s.settingTakesEffect =
      (s.setTrunk { s.trunk with txSettings := ls }).setAgent
        { s.agent with pendingSetting := some { settings := ls, phase := .takingUp } })) ∧
  (∀ (s : State) (ls : LineSettings), s.agent.pendingSetting = some { settings := ls, phase := .takingUp } →
    ((s.trunk.line ≠ .hearing ∧ s.trunk.assembler = none) → ∃ line, s.receiveAtRest =
      (s.setTrunk { s.trunk with rxSettings := ls, line := line }).setAgent { s.agent with pendingSetting := none } ∧
      ((∃ c, s.trunk.line = .settling c) → line = .settling 0) ∧ ((∀ c, s.trunk.line ≠ .settling c) → line = s.trunk.line)) ∧
    ((s.trunk.line = .hearing ∨ s.trunk.assembler ≠ none) → s.receiveAtRest = s)) ∧
  (∀ s : State, (∀ ls, s.agent.pendingSetting ≠ some { settings := ls, phase := .takingUp }) → s.receiveAtRest = s)

/-- TRUNK_LINE_RESET (R147 to R149) with no restart pending: it completes from IDLE, HEARING and SETTLING; the line is in
BREAK_IN, every answer, frame and slot is gone, BREAKS is counted and port 0's flag set; the configuration is kept. A pending
trunk setting ends on both halves. What TTX or a branch sends keeps only its character in progress, and each branch that is not
OFF emits a break (R128, R144); on a SETTLING line that still finishes a character the emission begins at once (log entry 9), and
where in a sample tick it begins is log entry 5's.
The free list (R104): where every buffer that the reset releases has as many references as it is released, and the buffers of
the trunk side, the slots and the agent one each, the buffers join in the order of R104, each at its last release. -/
def Obligations.TrunkLineResetDiscardsTraffic : Prop :=
  (∀ l : TrunkLine, l.hearsBreak = true ↔ l = .idle ∨ l = .hearing ∨ ∃ c, l = .settling c) ∧
  ∀ s : State, s.rstLow = false → s.trunk.line.hearsBreak = true → s.agent.restartPending = false →
    ∃ t, exec .trunkLineReset s = .next t ∧ TrunkReset s t ∧ t.agent.restartPending = false ∧
      t.trunk.counters = (if s.trunk.assembler = none then s.trunk.count .breaks else (s.trunk.count .damaged).count .breaks).counters ∧
      (let frames := fun (items : List UpItem) => items.filterMap fun
         | .frame n _ => some n
         | .refusal _ => none
       let onTrunkSide := (s.trunk.assembler.bind (·.store)).toList ++ frames s.trunkItems
       let inSlot := fun (b : Branch) => (s.branch b).slot.toList.flatMap fun x => x.phase.replyBuffer.toList ++ [x.request]
       let onBranch := fun (b : Branch) => (s.branch b).datagram.toList ++ inSlot b ++ (s.branch b).queue
       let released := onTrunkSide ++ Branch.all.flatMap onBranch ++ s.agent.queue.drop 1
       (∀ n ∈ released, released.count n = (s.desc n).refs) →
       (∀ n ∈ onTrunkSide ++ Branch.all.flatMap inSlot ++ s.agent.queue.drop 1, (s.desc n).refs = 1) →
       t.pool.free = s.pool.free ++ released.dedup) ∧
      (∀ b, (s.branch b).ResetSilently (t.branch b) ∧ (t.branch b).counters = (s.branch b).counters)

/-- TRUNK_LINE_RESET with a restart pending is one event with it (R150): every counter is 0 but BREAKS of port 0, which is 1,
and every flag clear but port 0's; the free list is rebuilt from the buffers no executing command keeps, with no reservation and
no branch waiting. On the trunk, on the branches and in the agent it is as at any trunk line reset: transmissions keep only
their character in progress, breaks are emitted, a pending trunk setting ends on both halves, the response of an executing
command is void, and the configuration is kept (R143, R148, R149; log entries 5 and 9 as there). -/
def Obligations.TrunkLineResetWithPendingRestart : Prop :=
  ∀ s : State, s.rstLow = false → s.trunk.line.hearsBreak = true → s.agent.restartPending = true →
    ∃ t, exec .trunkLineReset s = .next t ∧ TrunkReset s t ∧ t.agent.restartPending = false ∧
      (∀ c, t.trunk.counter c = if c = .breaks then 1 else 0) ∧ t.trunk.counters.flag = true ∧
      (∀ b, (s.branch b).ResetSilently (t.branch b) ∧ (∀ c, (t.branch b).counter c = 0) ∧ (t.branch b).counters.flag = false) ∧
      t.pool.free = (List.finRange 32).filter (fun n => decide (some n ≠ s.agent.queue.head?))

/-- A restart that takes effect (R194): traffic state and counters cleared, all 32 buffers on the free list in order, no
reservation and no branch waiting (R103), the configuration kept. An OFF line stays OFF, a DRIVING line settles after its
character in progress, and every other line settles (R129); a trunk transmission keeps only its character in progress, and an
IDLE or SPACING transmitter stays so (R144). -/
def Obligations.RestartKeepsConfiguration : Prop :=
  ∀ s : State,
    let t := s.restartTakesEffect
    t.pool.free = List.finRange 32 ∧ t.pool.reserved = 0 ∧ t.pool.waiting = [] ∧ t.map = s.map ∧ t.agent.queue = [] ∧ t.agent.coupler = s.agent.coupler ∧
    t.agent.restartPending = false ∧ t.agent.responseVoid = false ∧ t.agent.pendingSetting = none ∧
    t.trunk.upstream = [] ∧ t.trunk.refusals = [] ∧ t.trunk.assembler = none ∧ t.trunk.line = .settling 0 ∧
    TransmitterStopped s.trunk.transmitter t.trunk.transmitter ∧
    (∀ c, t.trunk.counter c = 0) ∧ t.trunk.counters = CounterBank.zero 13 ∧ t.trunk.counters.flag = false ∧
    (s.agent.pendingSetting = none → t.trunk.rxSettings = s.trunk.rxSettings ∧ t.trunk.txSettings = s.trunk.txSettings) ∧
    (∀ p, s.agent.pendingSetting = some p → t.trunk.rxSettings = p.settings ∧
      (p.phase = .awaiting → t.trunk.txSettings = p.settings)) ∧
    (∀ b, (t.branch b).queue = [] ∧ (t.branch b).slot = none ∧ (t.branch b).assembler = none ∧ (t.branch b).datagram = none ∧
      (t.branch b).lastClosed = none ∧
      ((s.branch b).line = .off → (t.branch b).line = .off ∧ (t.branch b).sending = (s.branch b).sending) ∧
      (∀ a, (s.branch b).line = .driving a →
        (t.branch b).line = .driving .settle ∧ (t.branch b).sending = (s.branch b).sending.map Transmission.cutShort) ∧
      ((s.branch b).line ≠ .off → (∀ a, (s.branch b).line ≠ .driving a) →
        (t.branch b).line = .settling 0 ∧ (t.branch b).receiver.IsAtRest ∧ (t.branch b).sending = (s.branch b).sending) ∧
      (∀ c, (t.branch b).counter c = 0) ∧ (t.branch b).counters = CounterBank.zero 16 ∧ (t.branch b).counters.flag = false ∧
      (t.branch b).admission = (s.branch b).admission ∧
      (t.branch b).settings = (s.branch b).settings ∧ (t.branch b).turnaround = (s.branch b).turnaround ∧
      (t.branch b).queueLimit = (s.branch b).queueLimit ∧ (t.branch b).grantLevel = (s.branch b).grantLevel ∧
      (t.branch b).broadcast = (s.branch b).broadcast)

/-! ## Management commands (Section 9) -/

/-- An unknown code is answered UNKNOWN, a wrong operand count WRONG_LENGTH, an operand outside R213 BAD_OPERAND: the command
completes, is counted, and has no effect (R173, R213).
How a command is read (R170): code 00h and no operands with LENGTH 0; else payload 1 is the code and the LENGTH − 1 characters
behind it the operands. The codes 01h to 0Fh name the commands, 0Ah a SET_LINE of port 0 where its first operand is 0 (log
entry 10), and any other code none (R173). Each command completes by the event of its own row, and takes the operand count of section 9.3. -/
def Obligations.FailedTestsHaveNoEffect : Prop :=
  (∀ chars : List Byte,
    let n := (charAt chars 2).toNat
    (n = 0 → commandCode chars = 0x00 ∧ commandOperands chars = []) ∧
    (n ≠ 0 → commandCode chars = charAt chars 3 ∧ (3 + n ≤ chars.length → (commandOperands chars).length = n - 1 ∧
      ∀ i, i < n - 1 → charAt (commandOperands chars) i = charAt chars (4 + i)))) ∧
  (∀ ops : List Byte,
    [0x01, 0x02, 0x03, 0x04, 0x05, 0x06, 0x07, 0x08, 0x09, 0x0B, 0x0C, 0x0D, 0x0E, 0x0F].map (fun code => commandOf code ops) =
      [.identify, .readStatus, .readCounters, .readEntry, .writeEntry, .clearEntry, .loadWorking, .commit, .setAdmission,
        .setPolicy, .resetBranch, .setAddress, .restart, .echo] ∧
    commandOf 0x0A ops = (if ops.head? = some 0 then .trunkSetLine else .setLine) ∧
    ∀ code : Byte, code = 0x00 ∨ 0x0F < code.toNat → commandOf code ops = .unknown) ∧
  (∀ (s : State) (n : BufferId), s.commandIn n = commandOf (commandCode (s.chars n)) (commandOperands (s.chars n))) ∧
  [Command.identify, .readStatus, .readCounters, .readEntry, .writeEntry, .clearEntry, .loadWorking, .commit, .setAdmission,
    .setLine, .trunkSetLine, .setPolicy, .resetBranch, .setAddress, .restart, .echo, .unknown].map Command.event =
    [Instr.identify, .readStatus, .readCounters, .readEntry, .writeEntry, .clearEntry, .loadWorking, .commit, .setAdmission,
      .setLine, .trunkSetLine, .setPolicy, .resetBranch, .setAddress, .restart, .echo, .unknownCommand] ∧
  (∀ n : Nat,
    (∀ c ∈ [Command.identify, .readStatus, .loadWorking, .commit, .restart], c.takes n = true ↔ n = 0) ∧
    (∀ c ∈ [Command.clearEntry, .resetBranch, .setAddress], c.takes n = true ↔ n = 1) ∧
    (∀ c ∈ [Command.readCounters, .setAdmission], c.takes n = true ↔ n = 2) ∧
    (Command.readEntry.takes n = true ↔ n = 3) ∧ (Command.setPolicy.takes n = true ↔ n = 4) ∧
    (∀ c ∈ [Command.setLine, .trunkSetLine], c.takes n = true ↔ n = 6) ∧ (Command.writeEntry.takes n = true ↔ n = 8) ∧
    (Command.echo.takes n = true ↔ n ≤ 62)) ∧
  ∀ (s : State) (c : Command) (n : BufferId) (rest : List BufferId), s.Executing c n rest →
    let ops := commandOperands (s.chars n)
    (c = .unknown → ∃ t, exec .unknownCommand s = .next t ∧ Concluded s s t n rest { result := .unknown, data := [] }) ∧
    (c ≠ .unknown → c.takes ops.length = false →
      ∃ t, exec c.event s = .next t ∧ Concluded s s t n rest { result := .wrongLength, data := [] }) ∧
    (c ≠ .unknown → c.takes ops.length = true → c.refuses ops = true →
      ∃ t, exec c.event s = .next t ∧ Concluded s s t n rest { result := .badOperand, data := [] })

/-- IDENTIFY and ECHO report and change nothing (R177, R188, R210).
The layout of every response (R174, R212): the command's ADDRESS, 40h + sequence, LENGTH 2 + the data's length, the command
code, the result code, the data and the check; the result codes are 00h to 05h. -/
def Obligations.IdentifyAndEchoReport : Prop :=
  (∀ (address code : Byte) (q : Sequence) (v : Verdict),
    let covered := [address, 0x40 + q.setWidth 8, BitVec.ofNat 8 (2 + v.data.length), code, v.result.code] ++ v.data
    responseFrame address q code v = covered ++ [(checkOf covered).extractLsb' 8 8, (checkOf covered).extractLsb' 0 8]) ∧
  [Result.done, .unknown, .badOperand, .wrongLength, .notNow, .rejected].map Result.code =
    [0x00, 0x01, 0x02, 0x03, 0x04, 0x05] ∧
  ∀ (s : State) (n : BufferId) (rest : List BufferId),
    let ops := commandOperands (s.chars n)
    (s.Executing .identify n rest → ops = [] → ∃ t, exec .identify s = .next t ∧
      Concluded s s t n rest { result := .done, data := [0x04, 0x20, 0x03, 0x04, 0x20, 0x10, hiByte s.map.generation,
        loByte s.map.generation, s.agent.coupler] }) ∧
    (s.Executing .echo n rest → ops.length ≤ 62 → ∃ t, exec .echo s = .next t ∧
      Concluded s s t n rest { result := .done, data := ops })

/-- READ_STATUS reports the snapshot in the layout of R214, with its codes and zero bits (R212), and clears every summary
flag (R178, R206, R208, R209). -/
def Obligations.ReadStatusReportsAndClears : Prop :=
  (Admission.opened.code = 0 ∧ Admission.parked.code = 1 ∧ Admission.closed.code = 2 ∧
    LineState.off.code = 0 ∧ (∀ q, (LineState.quiet q).code = 1) ∧ (∀ a, (LineState.driving a).code = 2) ∧
    LineState.hearing.code = 3 ∧ (∀ k, (LineState.breakOut k).code = 4) ∧ (∀ j, (LineState.breakIn j).code = 5) ∧
    (∀ c, (LineState.settling c).code = 6) ∧ slotCode none = 0 ∧ slotAttempts none = 0 ∧
    ∀ x : Slot, slotAttempts (some x) = x.attempts ∧ (x.phase = .ready → slotCode (some x) = 1) ∧
      (x.phase = .sending → slotCode (some x) = 2) ∧ (∀ left, x.phase = .waiting left → slotCode (some x) = 3) ∧
      (∀ n f, x.phase = .receiving n f → slotCode (some x) = 4)) ∧
  ∀ (s : State) (n : BufferId) (rest : List BufferId), s.Executing .readStatus n rest → commandOperands (s.chars n) = [] →
    ∃ t data, exec .readStatus s = .next t ∧ data.length = 29 ∧
      (∀ b : Branch, (charAt data 0).getLsbD b.number = (s.branch b).counters.flag) ∧
      (charAt data 0).getLsbD 0 = s.trunk.counters.flag ∧ charAt data 0 &&& 0xE0 = 0 ∧ charAt data 1 = byteOf s.pool.free.length ∧
      charAt data 2 = byteOf s.pool.reserved ∧ charAt data 3 = byteOf s.trunk.upstream.length ∧
      charAt data 4 = byteOf s.trunk.refusals.length ∧ wordOf (charAt data 5) (charAt data 6) = s.map.generation ∧
      charAt data 7 = s.agent.coupler ∧ (charAt data 8).getLsbD 0 = s.agent.restartPending ∧
      (charAt data 8).getLsbD 1 = s.agent.pendingSetting.isSome ∧ charAt data 8 &&& 0xFC = 0 ∧
      (∀ b : Branch, (data.drop (9 + 5 * (b.number - 1))).take 5 =
        [(s.branch b).admission.code, (s.branch b).line.code, slotCode (s.branch b).slot, byteOf (slotAttempts (s.branch b).slot),
          byteOf (s.branch b).queue.length]) ∧
      Concluded s
        { s with branches := s.branches.map (fun p => { p with counters := { p.counters with flag := false } })
                 trunk := { s.trunk with counters := { s.trunk.counters with flag := false } } }
        t n rest { result := .done, data := data }

/-- READ_COUNTERS reports a port's counters in the order of R199, the high character of each first, and with clear 1 sets each of them to 0 after the snapshot; its summary flag and
everything else stay (R179, R199, R205, R214). Port 0 is the trunk, and ports 1 to 4 are the branches. -/
def Obligations.ReadCountersReportsAndClears : Prop :=
  portNumber .trunk = 0 ∧ [Branch.b1, .b2, .b3, .b4].map Branch.number = [1, 2, 3, 4] ∧
  (∀ b : Branch, portNumber (.branch b) = b.number) ∧
  ∀ (s : State) (n : BufferId) (rest : List BufferId) (p : Port) (clear : Byte), s.Executing .readCounters n rest →
    commandOperands (s.chars n) = [byteOf (portNumber p), clear] → clear.toNat ≤ 1 →
    let cleared := match p with
      | .trunk => s.setTrunk { s.trunk with counters := { s.trunk.counters with counts := Vector.replicate 13 0 } }
      | .branch b => s.setBranch b
          { s.branch b with counters := { (s.branch b).counters with counts := Vector.replicate 16 0 } }
    let counts : List Word := match p with
      | .trunk => [TrunkCounter.framesIn, .framesOut, .damaged, .noisyChars, .orphanChars, .breaks, .unrouted, .refused, .discarded,
          .noBuffer, .refusalLost, .wrongKind, .mgmtCommands].map s.trunk.counter
      | .branch b => [BranchCounter.framesIn, .framesOut, .damaged, .noisyChars, .orphanChars, .breaks, .replies, .noReply,
          .badReply, .retries, .faults, .stray, .late, .stale, .jams, .queueDrops].map (s.branch b).counter
    ∃ t, exec .readCounters s = .next t ∧
      Concluded s (if clear = 1 then cleared else s) t n rest
        { result := .done, data := byteOf (portNumber p) :: counts.flatMap fun w => [w.extractLsb' 8 8, w.extractLsb' 0 8] }

/-- READ_ENTRY returns the entries from the first index upward, each with its valid state and all its fields (R29, R214). -/
def Obligations.ReadEntryReportsTable : Prop :=
  ∀ (s : State) (n : BufferId) (rest : List BufferId) (selector first count : Byte), s.Executing .readEntry n rest →
    commandOperands (s.chars n) = [selector, first, count] → selector.toNat ≤ 1 → 1 ≤ count.toNat → count.toNat ≤ 4 →
    first.toNat + count.toNat ≤ 16 →
    let table := if selector = 0 then s.map.active else s.map.working
    ∃ t data, exec .readEntry s = .next t ∧ data.length = 3 + 8 * count.toNat ∧ data.take 3 = [selector, first, count] ∧
      (∀ j : Nat, j < count.toNat → ∀ i : Fin 16, i.val = first.toNat + j →
        (data.drop (3 + 8 * j)).take 8 =
          [if (table.get i).valid then 1 else 0, (table.get i).trunkBase, byteOf (table.get i).sizeCode,
            byteOf (table.get i).branch.number, (table.get i).localBase, byteOf (table.get i).retries, (table.get i).replyLimit,
            (table.get i).accepts.code]) ∧
      Concluded s s t n rest { result := .done, data := data }

/-- WRITE_ENTRY writes all seven fields of one entry of WORKING and makes it valid; CLEAR_ENTRY makes one empty and keeps its
other fields; LOAD_WORKING copies ACTIVE into WORKING (R26, R27, R28). -/
def Obligations.WorkingIsEdited : Prop :=
  ∀ (s : State) (n : BufferId) (rest : List BufferId),
    let edited := fun (w : Table) => { s with map := { s.map with working := w } }
    (∀ (i : Fin 16) (tb k br lb rt r ad : Byte) (size : Fin 7) (b : Branch) (retries : Fin 4) (accepts : Admit),
      s.Executing .writeEntry n rest → commandOperands (s.chars n) = [byteOf i, tb, k, br, lb, rt, r, ad] →
      k = byteOf size → br = byteOf b.number → rt = byteOf retries → r ≠ 0 → ad = accepts.code →
      ∃ t, exec .writeEntry s = .next t ∧ Concluded s
        (edited (s.map.working.set i { valid := true, trunkBase := tb, sizeCode := size, branch := b, localBase := lb,
                                       retries := retries, replyLimit := r, accepts := accepts }))
        t n rest { result := .done, data := [] }) ∧
    (∀ i : Fin 16, s.Executing .clearEntry n rest → commandOperands (s.chars n) = [byteOf i] →
      ∃ t, exec .clearEntry s = .next t ∧ Concluded s
        (edited (s.map.working.set i { s.map.working.get i with valid := false })) t n rest { result := .done, data := [] }) ∧
    (s.Executing .loadWorking n rest → commandOperands (s.chars n) = [] →
      ∃ t, exec .loadWorking s = .next t ∧ Concluded s (edited s.map.active) t n rest { result := .done, data := [] })

/-- COMMIT (R30 to R32): with no failure in WORKING the tables are swapped and the generation rises by 1 modulo 65536; with
one, the first is reported and nothing changes. -/
def Obligations.CommitSwapsOrRejects : Prop :=
  ∀ (s : State) (n : BufferId) (rest : List BufferId), s.Executing .commit n rest → commandOperands (s.chars n) = [] →
    (s.map.validate s.agent.coupler = none → ∃ t, exec .commit s = .next t ∧ Concluded s
      { s with map := { active := s.map.working, working := s.map.working, generation := s.map.generation + 1 } }
      t n rest { result := .done, data := [hiByte (s.map.generation + 1), loByte (s.map.generation + 1)] }) ∧
    (∀ r, s.map.validate s.agent.coupler = some r → ∃ t, exec .commit s = .next t ∧
      Concluded s s t n rest { result := .rejected, data := [byteOf r.index, r.reason.code, r.other] })

/-- The validation of COMMIT finds the lowest-indexed valid entry that fails, by the first check it fails (R30); it finds
nothing exactly when every valid entry is aligned, holds no reserved address and overlaps no valid entry of lower index. An
overlap names the lowest such entry, and a local overlap is found only where there is no trunk overlap.
The checks (R19, R30): both bases are multiples of 2^k; a window of 2^k addresses from its base holds 00h, FFh or, on the trunk
side, the coupler address; two trunk windows, or two local windows on one branch, share an address. The reasons have the codes
01h to 04h. -/
def Obligations.ValidationFindsFirstFailure : Prop :=
  (∀ (e f : RouteEntry) (coupler : Byte),
    let onTrunk := fun (g : RouteEntry) (a : Nat) => g.trunkBase.toNat ≤ a ∧ a < g.trunkBase.toNat + 2 ^ g.sizeCode.val
    let onBranch := fun (g : RouteEntry) (a : Nat) => g.localBase.toNat ≤ a ∧ a < g.localBase.toNat + 2 ^ g.sizeCode.val
    (e.aligned = true ↔ e.trunkBase.toNat % 2 ^ e.sizeCode.val = 0 ∧ e.localBase.toNat % 2 ^ e.sizeCode.val = 0) ∧
    (e.reserved coupler = true ↔
      onTrunk e 0 ∨ onTrunk e 255 ∨ onTrunk e coupler.toNat ∨ onBranch e 0 ∨ onBranch e 255) ∧
    (e.trunkOverlap f = true ↔ ∃ a, onTrunk e a ∧ onTrunk f a) ∧
    (e.localOverlap f = true ↔ e.branch = f.branch ∧ ∃ a, onBranch e a ∧ onBranch f a)) ∧
  [RejectReason.misaligned, .reservedAddress, .trunkOverlap, .localOverlap].map RejectReason.code = [0x01, 0x02, 0x03, 0x04] ∧
  ∀ (m : StationMap) (coupler : Byte),
    let passes := fun (i : Fin 16) => (m.working.get i).valid = true →
      (m.working.get i).aligned = true ∧ (m.working.get i).reserved coupler = false ∧
      ∀ j : Fin 16, j < i → (m.working.get j).valid = true →
        (m.working.get i).trunkOverlap (m.working.get j) = false ∧ (m.working.get i).localOverlap (m.working.get j) = false
    (m.validate coupler = none ↔ ∀ i, passes i) ∧
    (∀ r, m.validate coupler = some r → ∃ i : Fin 16, r.index = i.val ∧ (m.working.get i).valid = true ∧ ¬ passes i ∧
      (∀ j : Fin 16, j < i → passes j) ∧
      (r.reason = .misaligned ↔ (m.working.get i).aligned = false) ∧
      (r.reason = .reservedAddress ↔ (m.working.get i).aligned = true ∧ (m.working.get i).reserved coupler = true) ∧
      (r.reason = .misaligned ∨ r.reason = .reservedAddress → r.other = 0xFF) ∧
      (r.reason = .trunkOverlap → ∃ j : Fin 16, j < i ∧ r.other = byteOf j ∧ (m.working.get j).valid = true ∧
        (m.working.get i).trunkOverlap (m.working.get j) = true ∧
        ∀ k : Fin 16, k < j → (m.working.get k).valid = true → (m.working.get i).trunkOverlap (m.working.get k) = false) ∧
      (r.reason = .localOverlap →
        (∀ k : Fin 16, k < i → (m.working.get k).valid = true → (m.working.get i).trunkOverlap (m.working.get k) = false) ∧
        ∃ j : Fin 16, j < i ∧ r.other = byteOf j ∧ (m.working.get j).valid = true ∧
          (m.working.get i).localOverlap (m.working.get j) = true ∧
          ∀ k : Fin 16, k < j → (m.working.get k).valid = true → (m.working.get i).localOverlap (m.working.get k) = false))

/-- SET_ADMISSION (R110, R111, R113, R182): the same state changes nothing; OPEN and PARKED change the admission alone; CLOSED
closes with the flush and takes the line OFF; from CLOSED the line goes to SETTLING. The end of a completion that carries
nothing (R171, R174, R175, R196): the response built over the command and sent upstream, or its buffer freed; the command leaves
the queue, the void flag is cleared, and the next command begins with its time. The buffer of a command that is not
answered joins the free list behind those of its flush (the model's choice, log entry 14). -/
def Obligations.SetAdmissionChangesBranch : Prop :=
  (∀ (s : State) (n : BufferId) (x : Completion), x.carry = .nothing →
    let response : Buffer :=
      { chars := responseFrame (charAt (s.chars n) 0) (s.desc n).seq (commandCode (s.chars n)) x.verdict
        desc := { s.desc n with length := 7 + x.verdict.data.length, kind := .reply, refs := 1, route := none } }
    (s.Answers n → s.finish n x =
      (s.setPool { s.pool with buffers := s.pool.buffers.set n response }).appendUpstream (.frame n .nothing)) ∧
    (¬ s.Answers n → s.finish n x = s.free n)) ∧
  (∀ s : State, s.nextCommand = s.setAgent { s.agent with
    queue := s.agent.queue.drop 1, responseVoid := false, left := s.limitOfNext (s.agent.queue.drop 1) }) ∧
  (∀ (s : State) (c : TrunkCounter), s.countTrunk c = s.setTrunk (s.trunk.count c)) ∧
  ∀ (s : State) (n : BufferId) (rest : List BufferId) (b : Branch) (a : Admission), s.Executing .setAdmission n rest →
    commandOperands (s.chars n) = [byteOf b.number, a.code] →
    let p := s.branch b
    let concluded := fun (u : State) => ∃ t, exec .setAdmission s = .next t ∧ ∃ w,
      w = ((u.countTrunk .mgmtCommands).finish n { verdict := { result := .done, data := [] }, effect := id, carry := .nothing }) ∧
      t = w.nextCommand.updateWaiting
    (p.admission = a → ∃ t, exec .setAdmission s = .next t ∧ Concluded s s t n rest { result := .done, data := [] }) ∧
    (p.admission ≠ a → a ≠ .closed → p.admission ≠ .closed → ∃ t, exec .setAdmission s = .next t ∧
      Concluded s (s.setBranch b { p with admission := a }) t n rest { result := .done, data := [] }) ∧
    (p.admission ≠ a → p.admission = .closed → ∃ t, exec .setAdmission s = .next t ∧
      Concluded s (s.setBranch b { p with admission := a, line := .settling 0, receiver := Receiver.fresh }) t n rest
        { result := .done, data := [] }) ∧
    (p.admission ≠ a → a = .closed →
      let u := (s.setBranch b { p with admission := .closed }).flush b
      concluded (u.setBranch b { u.branch b with
        line := .off, sending := (u.branch b).sending.map Transmission.stop, receiver := Receiver.fresh }))

/-- SET_LINE for a branch (R130, R185): on a CLOSED branch all six settings take the given values; on an OPEN or PARKED one
the result is NOT_NOW and nothing changes. The REFCLK cycles counted since the branch's last sample tick are kept under
the new divisor, where the spec is silent (the model's choice, log entry 5).
The format operand of SET_LINE (section 11.3): parity in bits 1..0, stop bits in bit 2, noise-strict in bit 3, bits 7..4
zero; the bits per character follow from it (R152). -/
def Obligations.SetLineNeedsClosedBranch : Prop :=
  (∀ (s : State) (n : BufferId) (rest : List BufferId) (b : Branch) (hi lo format gap turn : Byte) (f : Format),
       s.Executing .setLine n rest → commandOperands (s.chars n) = [byteOf b.number, hi, lo, format, gap, turn] →
       hi.toNat ≤ 15 → readFormat format = some f → inRange 1 15 gap.toNat → inRange 1 15 turn.toNat →
       ((s.branch b).admission = .closed → ∃ t, exec .setLine s = .next t ∧ Concluded s
         (s.setBranch b { s.branch b with
           settings := { divisor := BitVec.ofNat 12 (256 * hi.toNat + lo.toNat), format := f, gapLimit := gap.toNat }
           turnaround := turn.toNat }) t n rest { result := .done, data := [] }) ∧
       ((s.branch b).admission ≠ .closed → ∃ t, exec .setLine s = .next t ∧
         Concluded s s t n rest { result := .notNow, data := [] })) ∧
  (∀ c : Byte,
       (c.toNat % 4 = 3 ∨ 15 < c.toNat → readFormat c = none) ∧
       (c.toNat % 4 ≠ 3 → c.toNat ≤ 15 → ∃ f, readFormat c = some f ∧
         (f.parity = .none ↔ c.toNat % 4 = 0) ∧ (f.parity = .even ↔ c.toNat % 4 = 1) ∧ (f.parity = .odd ↔ c.toNat % 4 = 2) ∧
         (f.twoStops = true ↔ c.toNat / 4 % 2 = 1) ∧ (f.noiseStrict = true ↔ c.toNat / 8 % 2 = 1) ∧
         f.bits = 11 + (if c.toNat % 4 = 0 then 0 else 1) + c.toNat / 4 % 2))

/-- SET_POLICY sets all three policy settings at any admission and line state (R131, R183). A waiting branch keeps its place
in the joining order: the branches that still meet the conditions stay as they stood, and any that newly meet them join behind
(R97); of every branch whose queue head is not the command's own buffer the conditions are met as before. -/
def Obligations.SetPolicySetsPolicy : Prop :=
  ∀ (s : State) (n : BufferId) (rest : List BufferId) (b : Branch) (limit level option : Byte),
    s.Executing .setPolicy n rest → commandOperands (s.chars n) = [byteOf b.number, limit, level, option] →
    inRange 1 16 limit.toNat → inRange 1 7 level.toNat → option.toNat ≤ 1 →
    ∃ t, exec .setPolicy s = .next t ∧ Concluded s
      (s.setBranch b { s.branch b with
        queueLimit := limit.toNat, grantLevel := level.toNat, broadcast := decide (option = 1) }) t n rest
      { result := .done, data := [] } ∧
      (let stay := s.pool.waiting.filter t.eligible
       t.pool.waiting = stay ++ Branch.all.filter fun c => t.eligible c && !stay.contains c) ∧
      ∀ c, (s.branch c).queue.head? ≠ some n → t.eligible c = s.eligible c

/-- RESET_BRANCH (R126, R127, R184): nothing on a CLOSED branch; on any other the line is ordered to emit a break and the
branch flushed, before the response is appended.
A break emission that is ordered (R120): not on an OFF line, after the character in progress on a DRIVING line, at once
for 3 ct in every other state, and anew on a line that is emitting; at once also on
a SETTLING line that still finishes a character (log entry 9). The buffer of a command that is not answered joins the free list
behind those of its flush (the model's choice, log entry 14); where in a sample tick an emission begins is log entry 5's. -/
def Obligations.ResetBranchEmitsAndFlushes : Prop :=
  (∀ (s : State) (n : BufferId) (rest : List BufferId) (b : Branch), s.Executing .resetBranch n rest →
       commandOperands (s.chars n) = [byteOf b.number] →
       ((s.branch b).admission = .closed → ∃ t, exec .resetBranch s = .next t ∧
         Concluded s s t n rest { result := .done, data := [] }) ∧
       ((s.branch b).admission ≠ .closed → ∃ t, exec .resetBranch s = .next t ∧
         t = ((((s.setBranch b (s.branch b).orderEmission).flush b).countTrunk .mgmtCommands).finish n
           { verdict := { result := .done, data := [] }, effect := id, carry := .nothing }).nextCommand.updateWaiting)) ∧
  (∀ p : BranchPort,
       (p.line = .off → p.orderEmission = p) ∧
       (∀ a, p.line = .driving a → p.orderEmission =
         { p with line := .driving .emission, sending := p.sending.map Transmission.stop }) ∧
       (p.line ≠ .off → (∀ a, p.line ≠ .driving a) → p.orderEmission =
         { p with line := .breakOut (3 * (16 * p.settings.format.bits)), sending := none, receiver := Receiver.fresh }))

/-- SET_LINE for port 0 (R186, R187): the turnaround operand is not examined; with none pending the setting becomes pending
behind the response, or takes effect at once where no response is made; with one pending the result is NOT_NOW. Where it takes
effect at once, the next command begins behind it and is timed at the settings it leaves (the model's choice, log entry 11),
a frame on TTX keeps the settings it began with (log entry 8), and the cycles and the break measure that the receive half has
counted are kept (log entries 5 and 15). -/
def Obligations.TrunkSetLineBecomesPending : Prop :=
  ∀ (s : State) (n : BufferId) (rest : List BufferId) (hi lo format gap turn : Byte) (f : Format),
    s.Executing .trunkSetLine n rest → commandOperands (s.chars n) = [0x00, hi, lo, format, gap, turn] →
    hi.toNat ≤ 15 → readFormat format = some f → inRange 1 15 gap.toNat →
    let ls : LineSettings := { divisor := BitVec.ofNat 12 (256 * hi.toNat + lo.toNat), format := f, gapLimit := gap.toNat }
    let u := s.setAgent { s.agent with pendingSetting := some { settings := ls, phase := .awaiting } }
    (s.agent.pendingSetting ≠ none → ∃ t, exec .trunkSetLine s = .next t ∧
      Concluded s s t n rest { result := .notNow, data := [] }) ∧
    (s.agent.pendingSetting = none → s.Answers n → ∃ t, exec .trunkSetLine s = .next t ∧
      Reported u t n rest { result := .done, data := [] } .setting) ∧
    (s.agent.pendingSetting = none → ¬ s.Answers n → ∃ t, exec .trunkSetLine s = .next t ∧
      t = (((u.countTrunk .mgmtCommands).free n).settingTakesEffect).nextCommand.updateWaiting)

/-- SET_ADDRESS (R190): refused at 00h, FFh and inside a trunk window of ACTIVE; otherwise the coupler address becomes the
new one and the response, under the old address, carries the old one. -/
def Obligations.SetAddressChangesCoupler : Prop :=
  ∀ (s : State) (n : BufferId) (rest : List BufferId) (a : Byte), s.Executing .setAddress n rest →
    commandOperands (s.chars n) = [a] →
    let inWindow := ∃ i : Fin 16, (s.map.active.get i).valid = true ∧ (s.map.active.get i).trunkBase.toNat ≤ a.toNat ∧
      a.toNat < (s.map.active.get i).trunkBase.toNat + 2 ^ (s.map.active.get i).sizeCode.val
    (a = 0x00 ∨ a = 0xFF ∨ inWindow → ∃ t, exec .setAddress s = .next t ∧
      Concluded s s t n rest { result := .badOperand, data := [] }) ∧
    (a ≠ 0x00 → a ≠ 0xFF → ¬ inWindow → ∃ t, exec .setAddress s = .next t ∧
      Concluded s (s.setAgent { s.agent with coupler := a }) t n rest { result := .done, data := [s.agent.coupler] })

/-- RESTART (R192): NOT_NOW while one is pending; a REQUEST leaves it pending behind its response; a DATAGRAM, or a command
whose response is void, makes it take effect at its completion. -/
def Obligations.RestartIsDeferredToItsResponse : Prop :=
  ∀ (s : State) (n : BufferId) (rest : List BufferId), s.Executing .restart n rest → commandOperands (s.chars n) = [] →
    (s.agent.restartPending = true → ∃ t, exec .restart s = .next t ∧
      Concluded s s t n rest { result := .notNow, data := [] }) ∧
    (s.agent.restartPending = false → s.Answers n → ∃ t, exec .restart s = .next t ∧
      Reported (s.setAgent { s.agent with restartPending := true }) t n rest { result := .done, data := [] } .restart) ∧
    (s.agent.restartPending = false → ¬ s.Answers n → ∃ t, exec .restart s = .next t ∧
      t = (((s.countTrunk .mgmtCommands).free n).restartTakesEffect).nextCommand.updateWaiting)

/-! ## Invariants -/

/-- The reservation count stays the number of slots in READY, SENDING or WAITING and within the free count, at every step,
and so no step stops: every conversion finds a buffer (R94, R95). -/
def Obligations.ReservationsAreAlwaysBacked : Prop :=
  (∀ ph : SlotPhase, ph.holdsReservation = true ↔ ph = .ready ∨ ph = .sending ∨ ∃ left, ph = .waiting left) ∧
  ∀ s : State, s.ReservationsBacked → ∃ t, step s = .next t ∧ t.ReservationsBacked

/-- ACTIVE stays fit to route at every step (R23), and the coupler address in 01h..FEh (R189): its valid entries are aligned,
their trunk windows hold neither 00h, FFh nor the coupler address and share no address, and their local windows hold neither
00h nor FFh and share none on one branch. -/
def Obligations.ActiveTableStaysSound : Prop :=
  (∀ s t : State, s.MapSound → step s = .next t → t.MapSound) ∧
  (∀ s : State,
    let entry := fun (i : Fin 16) => s.map.active.get i
    let onTrunk := fun (i : Fin 16) (a : Nat) =>
      (entry i).trunkBase.toNat ≤ a ∧ a < (entry i).trunkBase.toNat + 2 ^ (entry i).sizeCode.val
    let onBranch := fun (i : Fin 16) (a : Nat) =>
      (entry i).localBase.toNat ≤ a ∧ a < (entry i).localBase.toNat + 2 ^ (entry i).sizeCode.val
    s.MapSound ↔
      (∀ i, (entry i).valid = true →
        (entry i).trunkBase.toNat % 2 ^ (entry i).sizeCode.val = 0 ∧ (entry i).localBase.toNat % 2 ^ (entry i).sizeCode.val = 0 ∧
        (∀ a, onTrunk i a → a ≠ 0 ∧ a ≠ 255 ∧ a ≠ s.agent.coupler.toNat) ∧ (∀ a, onBranch i a → a ≠ 0 ∧ a ≠ 255)) ∧
      (∀ i j, i < j → (entry i).valid = true → (entry j).valid = true →
        (∀ a, ¬ (onTrunk i a ∧ onTrunk j a)) ∧
        ((entry i).branch = (entry j).branch → ∀ a, ¬ (onBranch i a ∧ onBranch j a))) ∧
      1 ≤ s.agent.coupler.toNat ∧ s.agent.coupler.toNat ≤ 254)

/-- At every step the line of a branch is OFF exactly while it is CLOSED, and a CLOSED branch holds no traffic (R43, R111,
R124); beside that, a branch sends while its line is DRIVING, and otherwise only a stopped character on an OFF or SETTLING line
(R114, R115), and has a frame in assembly only while its line is HEARING (R116). -/
def Obligations.ClosedBranchesStayEmptyAndOff : Prop :=
  (∀ s t : State, s.ClosedIsOff → step s = .next t → t.ClosedIsOff) ∧
  (∀ s t : State, s.ClosedIsOff → s.DrivesWhatItSends → step s = .next t → t.DrivesWhatItSends)

/-- At every step the waiting set holds exactly the branches that meet the conditions of R97, each once. -/
def Obligations.WaitingSetStaysSettled : Prop := ∀ s t : State, s.WaitingSettled → step s = .next t → t.WaitingSettled

/-- At every step the settings stay in their ranges, and the branch queues, the agent queue and the refusal store within 16,
2 and 4 (R106, R171, R137). -/
def Obligations.SettingsAndQueuesStayInRange : Prop := ∀ s t : State, s.InRange → step s = .next t → t.InRange
end

