-- ==== Sys2Proof/Laws/State.lean ====
section
/-! SUPPORT. One lemma per field per update of State, and the reading of one branch after another is written: no later
proof unfolds a record update. -/

namespace Sys2Proof

/-! ## One value for each branch -/

@[simp] theorem PerBranch.get_set_same {α : Type} (p : PerBranch α) (b : Branch) (x : α) : (p.set b x).get b = x := by
  cases b <;> rfl

theorem PerBranch.get_set_of_ne {α : Type} (p : PerBranch α) {b c : Branch} (x : α) (h : c ≠ b) :
    (p.set b x).get c = p.get c := by
  cases b <;> cases c <;> first | rfl | exact absurd rfl h

theorem PerBranch.get_set {α : Type} (p : PerBranch α) (b c : Branch) (x : α) :
    (p.set b x).get c = if c = b then x else p.get c := by
  cases b <;> cases c <;> rfl

@[simp] theorem PerBranch.set_set {α : Type} (p : PerBranch α) (b : Branch) (x y : α) : (p.set b x).set b y = p.set b y := by
  cases b <;> rfl

@[simp] theorem PerBranch.set_get {α : Type} (p : PerBranch α) (b : Branch) : p.set b (p.get b) = p := by
  cases b <;> rfl

@[simp] theorem PerBranch.get_map {α β : Type} (f : α → β) (p : PerBranch α) (b : Branch) : (p.map f).get b = f (p.get b) := by
  cases b <;> rfl

theorem PerBranch.ext_get {α : Type} {p q : PerBranch α} (h : ∀ b, p.get b = q.get b) : p = q := by
  have h1 := h .b1
  have h2 := h .b2
  have h3 := h .b3
  have h4 := h .b4
  cases p
  cases q
  simp only [PerBranch.get] at h1 h2 h3 h4
  subst h1 h2 h3 h4
  rfl

theorem Branch.mem_all (b : Branch) : b ∈ Branch.all := by cases b <;> decide

theorem Branch.all_nodup : Branch.all.Nodup := by decide

namespace Machine

/-! ## Updates of the parts of the state -/

@[simp] theorem State.setTrunk_pool (s : State) (t : TrunkPort) : (s.setTrunk t).pool = s.pool := rfl

@[simp] theorem State.setTrunk_map (s : State) (t : TrunkPort) : (s.setTrunk t).map = s.map := rfl

@[simp] theorem State.setTrunk_branches (s : State) (t : TrunkPort) : (s.setTrunk t).branches = s.branches := rfl

@[simp] theorem State.setTrunk_trunk (s : State) (t : TrunkPort) : (s.setTrunk t).trunk = t := rfl

@[simp] theorem State.setTrunk_agent (s : State) (t : TrunkPort) : (s.setTrunk t).agent = s.agent := rfl

@[simp] theorem State.setTrunk_rstLow (s : State) (t : TrunkPort) : (s.setTrunk t).rstLow = s.rstLow := rfl

@[simp] theorem State.setTrunk_pending (s : State) (t : TrunkPort) : (s.setTrunk t).pending = s.pending := rfl

@[simp] theorem State.setTrunk_choices (s : State) (t : TrunkPort) : (s.setTrunk t).choices = s.choices := rfl

@[simp] theorem State.setTrunk_branch (s : State) (t : TrunkPort) (b : Branch) : (s.setTrunk t).branch b = s.branch b := rfl

@[simp] theorem State.setPool_pool (s : State) (p : Pool) : (s.setPool p).pool = p := rfl

@[simp] theorem State.setPool_map (s : State) (p : Pool) : (s.setPool p).map = s.map := rfl

@[simp] theorem State.setPool_branches (s : State) (p : Pool) : (s.setPool p).branches = s.branches := rfl

@[simp] theorem State.setPool_trunk (s : State) (p : Pool) : (s.setPool p).trunk = s.trunk := rfl

@[simp] theorem State.setPool_agent (s : State) (p : Pool) : (s.setPool p).agent = s.agent := rfl

@[simp] theorem State.setPool_rstLow (s : State) (p : Pool) : (s.setPool p).rstLow = s.rstLow := rfl

@[simp] theorem State.setPool_pending (s : State) (p : Pool) : (s.setPool p).pending = s.pending := rfl

@[simp] theorem State.setPool_choices (s : State) (p : Pool) : (s.setPool p).choices = s.choices := rfl

@[simp] theorem State.setPool_branch (s : State) (p : Pool) (b : Branch) : (s.setPool p).branch b = s.branch b := rfl

@[simp] theorem State.setAgent_pool (s : State) (a : Agent) : (s.setAgent a).pool = s.pool := rfl

@[simp] theorem State.setAgent_map (s : State) (a : Agent) : (s.setAgent a).map = s.map := rfl

@[simp] theorem State.setAgent_branches (s : State) (a : Agent) : (s.setAgent a).branches = s.branches := rfl

@[simp] theorem State.setAgent_trunk (s : State) (a : Agent) : (s.setAgent a).trunk = s.trunk := rfl

@[simp] theorem State.setAgent_agent (s : State) (a : Agent) : (s.setAgent a).agent = a := rfl

@[simp] theorem State.setAgent_rstLow (s : State) (a : Agent) : (s.setAgent a).rstLow = s.rstLow := rfl

@[simp] theorem State.setAgent_pending (s : State) (a : Agent) : (s.setAgent a).pending = s.pending := rfl

@[simp] theorem State.setAgent_choices (s : State) (a : Agent) : (s.setAgent a).choices = s.choices := rfl

@[simp] theorem State.setAgent_branch (s : State) (a : Agent) (b : Branch) : (s.setAgent a).branch b = s.branch b := rfl

@[simp] theorem State.setMap_pool (s : State) (m : StationMap) : (s.setMap m).pool = s.pool := rfl

@[simp] theorem State.setMap_map (s : State) (m : StationMap) : (s.setMap m).map = m := rfl

@[simp] theorem State.setMap_branches (s : State) (m : StationMap) : (s.setMap m).branches = s.branches := rfl

@[simp] theorem State.setMap_trunk (s : State) (m : StationMap) : (s.setMap m).trunk = s.trunk := rfl

@[simp] theorem State.setMap_agent (s : State) (m : StationMap) : (s.setMap m).agent = s.agent := rfl

@[simp] theorem State.setMap_rstLow (s : State) (m : StationMap) : (s.setMap m).rstLow = s.rstLow := rfl

@[simp] theorem State.setMap_pending (s : State) (m : StationMap) : (s.setMap m).pending = s.pending := rfl

@[simp] theorem State.setMap_choices (s : State) (m : StationMap) : (s.setMap m).choices = s.choices := rfl

@[simp] theorem State.setMap_branch (s : State) (m : StationMap) (b : Branch) : (s.setMap m).branch b = s.branch b := rfl

@[simp] theorem State.setBranch_pool (s : State) (b : Branch) (p : BranchPort) : (s.setBranch b p).pool = s.pool := rfl

@[simp] theorem State.setBranch_map (s : State) (b : Branch) (p : BranchPort) : (s.setBranch b p).map = s.map := rfl

@[simp] theorem State.setBranch_trunk (s : State) (b : Branch) (p : BranchPort) : (s.setBranch b p).trunk = s.trunk := rfl

@[simp] theorem State.setBranch_agent (s : State) (b : Branch) (p : BranchPort) : (s.setBranch b p).agent = s.agent := rfl

@[simp] theorem State.setBranch_rstLow (s : State) (b : Branch) (p : BranchPort) : (s.setBranch b p).rstLow = s.rstLow := rfl

@[simp] theorem State.setBranch_pending (s : State) (b : Branch) (p : BranchPort) : (s.setBranch b p).pending = s.pending := rfl

@[simp] theorem State.setBranch_choices (s : State) (b : Branch) (p : BranchPort) : (s.setBranch b p).choices = s.choices := rfl

@[simp] theorem State.setBranch_same (s : State) (b : Branch) (p : BranchPort) : (s.setBranch b p).branch b = p :=
  PerBranch.get_set_same s.branches b p

theorem State.setBranch_of_ne (s : State) {b c : Branch} (p : BranchPort) (h : c ≠ b) :
    (s.setBranch b p).branch c = s.branch c := PerBranch.get_set_of_ne s.branches p h

theorem State.setBranch_branch (s : State) (b c : Branch) (p : BranchPort) :
    (s.setBranch b p).branch c = if c = b then p else s.branch c := PerBranch.get_set s.branches b c p

@[simp] theorem State.setBranch_setBranch (s : State) (b : Branch) (p q : BranchPort) :
    (s.setBranch b p).setBranch b q = s.setBranch b q := by
  simp [State.setBranch]

/-- Writing a branch commutes with writing another part. -/
theorem State.setBranch_setPool (s : State) (b : Branch) (p : BranchPort) (q : Pool) :
    (s.setBranch b p).setPool q = (s.setPool q).setBranch b p := rfl

theorem State.setBranch_setTrunk (s : State) (b : Branch) (p : BranchPort) (t : TrunkPort) :
    (s.setBranch b p).setTrunk t = (s.setTrunk t).setBranch b p := rfl

@[simp] theorem State.setTrunk_setTrunk (s : State) (x y : TrunkPort) : (s.setTrunk x).setTrunk y = s.setTrunk y := rfl

@[simp] theorem State.setPool_setPool (s : State) (x y : Pool) : (s.setPool x).setPool y = s.setPool y := rfl

@[simp] theorem State.setAgent_setAgent (s : State) (x y : Agent) : (s.setAgent x).setAgent y = s.setAgent y := rfl

@[simp] theorem State.setMap_setMap (s : State) (x y : StationMap) : (s.setMap x).setMap y = s.setMap y := rfl

/-- Two states are equal when their parts are. -/
theorem State.ext_parts {s t : State} (hp : s.pool = t.pool) (hm : s.map = t.map) (hb : ∀ b, s.branch b = t.branch b)
    (ht : s.trunk = t.trunk) (ha : s.agent = t.agent) (hr : s.rstLow = t.rstLow) (hq : s.pending = t.pending)
    (hc : s.choices = t.choices) : s = t := by
  have hb' : s.branches = t.branches := PerBranch.ext_get hb
  cases s
  cases t
  simp_all

end Machine

end Sys2Proof
end

