-- ==== Sys2Proof/Laws/Ops.lean ====
section
/-! SUPPORT. What each shared operation leaves alone, one lemma per operation and part of the state, and what an append to
the upstream queue does. -/

namespace Sys2Proof.Machine

/-! ## Operations on the pool alone -/

@[simp] theorem State.setBuffer_map (n : BufferId) (x : Buffer) (s : State) : (State.setBuffer n x s).map = s.map := rfl
@[simp] theorem State.setBuffer_branches (n : BufferId) (x : Buffer) (s : State) : (State.setBuffer n x s).branches = s.branches := rfl
@[simp] theorem State.setBuffer_trunk (n : BufferId) (x : Buffer) (s : State) : (State.setBuffer n x s).trunk = s.trunk := rfl
@[simp] theorem State.setBuffer_agent (n : BufferId) (x : Buffer) (s : State) : (State.setBuffer n x s).agent = s.agent := rfl
@[simp] theorem State.setBuffer_rstLow (n : BufferId) (x : Buffer) (s : State) : (State.setBuffer n x s).rstLow = s.rstLow := rfl
@[simp] theorem State.setBuffer_pending (n : BufferId) (x : Buffer) (s : State) : (State.setBuffer n x s).pending = s.pending := rfl
@[simp] theorem State.setBuffer_choices (n : BufferId) (x : Buffer) (s : State) : (State.setBuffer n x s).choices = s.choices := rfl
@[simp] theorem State.setBuffer_branch (n : BufferId) (x : Buffer) (s : State) (d : Branch) : (State.setBuffer n x s).branch d = s.branch d := by
  simp only [State.branch, State.setBuffer_branches]

@[simp] theorem State.claim_map (v : Byte) (n : BufferId) (r : List BufferId) (s : State) : (s.claim v n r).map = s.map := rfl
@[simp] theorem State.claim_branches (v : Byte) (n : BufferId) (r : List BufferId) (s : State) : (s.claim v n r).branches = s.branches := rfl
@[simp] theorem State.claim_trunk (v : Byte) (n : BufferId) (r : List BufferId) (s : State) : (s.claim v n r).trunk = s.trunk := rfl
@[simp] theorem State.claim_agent (v : Byte) (n : BufferId) (r : List BufferId) (s : State) : (s.claim v n r).agent = s.agent := rfl
@[simp] theorem State.claim_rstLow (v : Byte) (n : BufferId) (r : List BufferId) (s : State) : (s.claim v n r).rstLow = s.rstLow := rfl
@[simp] theorem State.claim_pending (v : Byte) (n : BufferId) (r : List BufferId) (s : State) : (s.claim v n r).pending = s.pending := rfl
@[simp] theorem State.claim_choices (v : Byte) (n : BufferId) (r : List BufferId) (s : State) : (s.claim v n r).choices = s.choices := rfl
@[simp] theorem State.claim_branch (v : Byte) (n : BufferId) (r : List BufferId) (s : State) (d : Branch) : (s.claim v n r).branch d = s.branch d := by
  simp only [State.branch, State.claim_branches]

@[simp] theorem State.free_map (n : BufferId) (s : State) : (s.free n).map = s.map := rfl
@[simp] theorem State.free_branches (n : BufferId) (s : State) : (s.free n).branches = s.branches := rfl
@[simp] theorem State.free_trunk (n : BufferId) (s : State) : (s.free n).trunk = s.trunk := rfl
@[simp] theorem State.free_agent (n : BufferId) (s : State) : (s.free n).agent = s.agent := rfl
@[simp] theorem State.free_rstLow (n : BufferId) (s : State) : (s.free n).rstLow = s.rstLow := rfl
@[simp] theorem State.free_pending (n : BufferId) (s : State) : (s.free n).pending = s.pending := rfl
@[simp] theorem State.free_choices (n : BufferId) (s : State) : (s.free n).choices = s.choices := rfl
@[simp] theorem State.free_branch (n : BufferId) (s : State) (d : Branch) : (s.free n).branch d = s.branch d := by
  simp only [State.branch, State.free_branches]

@[simp] theorem State.writeChar_map (n : BufferId) (v : Byte) (s : State) : (s.writeChar n v).map = s.map := rfl
@[simp] theorem State.writeChar_branches (n : BufferId) (v : Byte) (s : State) : (s.writeChar n v).branches = s.branches := rfl
@[simp] theorem State.writeChar_trunk (n : BufferId) (v : Byte) (s : State) : (s.writeChar n v).trunk = s.trunk := rfl
@[simp] theorem State.writeChar_agent (n : BufferId) (v : Byte) (s : State) : (s.writeChar n v).agent = s.agent := rfl
@[simp] theorem State.writeChar_rstLow (n : BufferId) (v : Byte) (s : State) : (s.writeChar n v).rstLow = s.rstLow := rfl
@[simp] theorem State.writeChar_pending (n : BufferId) (v : Byte) (s : State) : (s.writeChar n v).pending = s.pending := rfl
@[simp] theorem State.writeChar_choices (n : BufferId) (v : Byte) (s : State) : (s.writeChar n v).choices = s.choices := rfl
@[simp] theorem State.writeChar_branch (n : BufferId) (v : Byte) (s : State) (d : Branch) : (s.writeChar n v).branch d = s.branch d := by
  simp only [State.branch, State.writeChar_branches]

@[simp] theorem State.completeBuffer_map (n : BufferId) (k : Nat) (s : State) : (s.completeBuffer n k).map = s.map := rfl
@[simp] theorem State.completeBuffer_branches (n : BufferId) (k : Nat) (s : State) : (s.completeBuffer n k).branches = s.branches := rfl
@[simp] theorem State.completeBuffer_trunk (n : BufferId) (k : Nat) (s : State) : (s.completeBuffer n k).trunk = s.trunk := rfl
@[simp] theorem State.completeBuffer_agent (n : BufferId) (k : Nat) (s : State) : (s.completeBuffer n k).agent = s.agent := rfl
@[simp] theorem State.completeBuffer_rstLow (n : BufferId) (k : Nat) (s : State) : (s.completeBuffer n k).rstLow = s.rstLow := rfl
@[simp] theorem State.completeBuffer_pending (n : BufferId) (k : Nat) (s : State) : (s.completeBuffer n k).pending = s.pending := rfl
@[simp] theorem State.completeBuffer_choices (n : BufferId) (k : Nat) (s : State) : (s.completeBuffer n k).choices = s.choices := rfl
@[simp] theorem State.completeBuffer_branch (n : BufferId) (k : Nat) (s : State) (d : Branch) : (s.completeBuffer n k).branch d = s.branch d := by
  simp only [State.branch, State.completeBuffer_branches]

@[simp] theorem State.buildFault_map (n : BufferId) (a : Byte) (q : Sequence) (r : FaultReason) (b k : Nat) (s : State) : (s.buildFault n a q r b k).map = s.map := rfl
@[simp] theorem State.buildFault_branches (n : BufferId) (a : Byte) (q : Sequence) (r : FaultReason) (b k : Nat) (s : State) : (s.buildFault n a q r b k).branches = s.branches := rfl
@[simp] theorem State.buildFault_trunk (n : BufferId) (a : Byte) (q : Sequence) (r : FaultReason) (b k : Nat) (s : State) : (s.buildFault n a q r b k).trunk = s.trunk := rfl
@[simp] theorem State.buildFault_agent (n : BufferId) (a : Byte) (q : Sequence) (r : FaultReason) (b k : Nat) (s : State) : (s.buildFault n a q r b k).agent = s.agent := rfl
@[simp] theorem State.buildFault_rstLow (n : BufferId) (a : Byte) (q : Sequence) (r : FaultReason) (b k : Nat) (s : State) : (s.buildFault n a q r b k).rstLow = s.rstLow := rfl
@[simp] theorem State.buildFault_pending (n : BufferId) (a : Byte) (q : Sequence) (r : FaultReason) (b k : Nat) (s : State) : (s.buildFault n a q r b k).pending = s.pending := rfl
@[simp] theorem State.buildFault_choices (n : BufferId) (a : Byte) (q : Sequence) (r : FaultReason) (b k : Nat) (s : State) : (s.buildFault n a q r b k).choices = s.choices := rfl
@[simp] theorem State.buildFault_branch (n : BufferId) (a : Byte) (q : Sequence) (r : FaultReason) (b k : Nat) (s : State) (d : Branch) : (s.buildFault n a q r b k).branch d = s.branch d := by
  simp only [State.branch, State.buildFault_branches]

@[simp] theorem State.rewrite_map (n : BufferId) (a : Byte) (s : State) : (s.rewrite n a).map = s.map := rfl
@[simp] theorem State.rewrite_branches (n : BufferId) (a : Byte) (s : State) : (s.rewrite n a).branches = s.branches := rfl
@[simp] theorem State.rewrite_trunk (n : BufferId) (a : Byte) (s : State) : (s.rewrite n a).trunk = s.trunk := rfl
@[simp] theorem State.rewrite_agent (n : BufferId) (a : Byte) (s : State) : (s.rewrite n a).agent = s.agent := rfl
@[simp] theorem State.rewrite_rstLow (n : BufferId) (a : Byte) (s : State) : (s.rewrite n a).rstLow = s.rstLow := rfl
@[simp] theorem State.rewrite_pending (n : BufferId) (a : Byte) (s : State) : (s.rewrite n a).pending = s.pending := rfl
@[simp] theorem State.rewrite_choices (n : BufferId) (a : Byte) (s : State) : (s.rewrite n a).choices = s.choices := rfl
@[simp] theorem State.rewrite_branch (n : BufferId) (a : Byte) (s : State) (d : Branch) : (s.rewrite n a).branch d = s.branch d := by
  simp only [State.branch, State.rewrite_branches]

@[simp] theorem State.reserve_map (s : State) : (s.reserve).map = s.map := rfl
@[simp] theorem State.reserve_branches (s : State) : (s.reserve).branches = s.branches := rfl
@[simp] theorem State.reserve_trunk (s : State) : (s.reserve).trunk = s.trunk := rfl
@[simp] theorem State.reserve_agent (s : State) : (s.reserve).agent = s.agent := rfl
@[simp] theorem State.reserve_rstLow (s : State) : (s.reserve).rstLow = s.rstLow := rfl
@[simp] theorem State.reserve_pending (s : State) : (s.reserve).pending = s.pending := rfl
@[simp] theorem State.reserve_choices (s : State) : (s.reserve).choices = s.choices := rfl
@[simp] theorem State.reserve_branch (s : State) (d : Branch) : (s.reserve).branch d = s.branch d := by
  simp only [State.branch, State.reserve_branches]

@[simp] theorem State.unreserve_map (s : State) : (s.unreserve).map = s.map := rfl
@[simp] theorem State.unreserve_branches (s : State) : (s.unreserve).branches = s.branches := rfl
@[simp] theorem State.unreserve_trunk (s : State) : (s.unreserve).trunk = s.trunk := rfl
@[simp] theorem State.unreserve_agent (s : State) : (s.unreserve).agent = s.agent := rfl
@[simp] theorem State.unreserve_rstLow (s : State) : (s.unreserve).rstLow = s.rstLow := rfl
@[simp] theorem State.unreserve_pending (s : State) : (s.unreserve).pending = s.pending := rfl
@[simp] theorem State.unreserve_choices (s : State) : (s.unreserve).choices = s.choices := rfl
@[simp] theorem State.unreserve_branch (s : State) (d : Branch) : (s.unreserve).branch d = s.branch d := by
  simp only [State.branch, State.unreserve_branches]

@[simp] theorem State.updateWaiting_map (s : State) : (s.updateWaiting).map = s.map := rfl
@[simp] theorem State.updateWaiting_branches (s : State) : (s.updateWaiting).branches = s.branches := rfl
@[simp] theorem State.updateWaiting_trunk (s : State) : (s.updateWaiting).trunk = s.trunk := rfl
@[simp] theorem State.updateWaiting_agent (s : State) : (s.updateWaiting).agent = s.agent := rfl
@[simp] theorem State.updateWaiting_rstLow (s : State) : (s.updateWaiting).rstLow = s.rstLow := rfl
@[simp] theorem State.updateWaiting_pending (s : State) : (s.updateWaiting).pending = s.pending := rfl
@[simp] theorem State.updateWaiting_choices (s : State) : (s.updateWaiting).choices = s.choices := rfl
@[simp] theorem State.updateWaiting_branch (s : State) (d : Branch) : (s.updateWaiting).branch d = s.branch d := by
  simp only [State.branch, State.updateWaiting_branches]

@[simp] theorem State.releaseRef_map (n : BufferId) (s : State) : (s.releaseRef n).map = s.map := by
  unfold State.releaseRef; dsimp only; split <;> rfl
@[simp] theorem State.releaseRef_branches (n : BufferId) (s : State) : (s.releaseRef n).branches = s.branches := by
  unfold State.releaseRef; dsimp only; split <;> rfl
@[simp] theorem State.releaseRef_trunk (n : BufferId) (s : State) : (s.releaseRef n).trunk = s.trunk := by
  unfold State.releaseRef; dsimp only; split <;> rfl
@[simp] theorem State.releaseRef_agent (n : BufferId) (s : State) : (s.releaseRef n).agent = s.agent := by
  unfold State.releaseRef; dsimp only; split <;> rfl
@[simp] theorem State.releaseRef_rstLow (n : BufferId) (s : State) : (s.releaseRef n).rstLow = s.rstLow := by
  unfold State.releaseRef; dsimp only; split <;> rfl
@[simp] theorem State.releaseRef_pending (n : BufferId) (s : State) : (s.releaseRef n).pending = s.pending := by
  unfold State.releaseRef; dsimp only; split <;> rfl
@[simp] theorem State.releaseRef_choices (n : BufferId) (s : State) : (s.releaseRef n).choices = s.choices := by
  unfold State.releaseRef; dsimp only; split <;> rfl
@[simp] theorem State.releaseRef_branch (n : BufferId) (s : State) (d : Branch) : (s.releaseRef n).branch d = s.branch d := by
  simp only [State.branch, State.releaseRef_branches]

@[simp] theorem State.releaseRef?_map (n : Option BufferId) (s : State) : (s.releaseRef? n).map = s.map := by
  cases n <;> simp [State.releaseRef?]
@[simp] theorem State.releaseRef?_branches (n : Option BufferId) (s : State) : (s.releaseRef? n).branches = s.branches := by
  cases n <;> simp [State.releaseRef?]
@[simp] theorem State.releaseRef?_trunk (n : Option BufferId) (s : State) : (s.releaseRef? n).trunk = s.trunk := by
  cases n <;> simp [State.releaseRef?]
@[simp] theorem State.releaseRef?_agent (n : Option BufferId) (s : State) : (s.releaseRef? n).agent = s.agent := by
  cases n <;> simp [State.releaseRef?]
@[simp] theorem State.releaseRef?_rstLow (n : Option BufferId) (s : State) : (s.releaseRef? n).rstLow = s.rstLow := by
  cases n <;> simp [State.releaseRef?]
@[simp] theorem State.releaseRef?_pending (n : Option BufferId) (s : State) : (s.releaseRef? n).pending = s.pending := by
  cases n <;> simp [State.releaseRef?]
@[simp] theorem State.releaseRef?_choices (n : Option BufferId) (s : State) : (s.releaseRef? n).choices = s.choices := by
  cases n <;> simp [State.releaseRef?]
@[simp] theorem State.releaseRef?_branch (n : Option BufferId) (s : State) (d : Branch) : (s.releaseRef? n).branch d = s.branch d := by
  simp only [State.branch, State.releaseRef?_branches]

@[simp] theorem State.free?_map (n : Option BufferId) (s : State) : (s.free? n).map = s.map := by
  cases n <;> rfl
@[simp] theorem State.free?_branches (n : Option BufferId) (s : State) : (s.free? n).branches = s.branches := by
  cases n <;> rfl
@[simp] theorem State.free?_trunk (n : Option BufferId) (s : State) : (s.free? n).trunk = s.trunk := by
  cases n <;> rfl
@[simp] theorem State.free?_agent (n : Option BufferId) (s : State) : (s.free? n).agent = s.agent := by
  cases n <;> rfl
@[simp] theorem State.free?_rstLow (n : Option BufferId) (s : State) : (s.free? n).rstLow = s.rstLow := by
  cases n <;> rfl
@[simp] theorem State.free?_pending (n : Option BufferId) (s : State) : (s.free? n).pending = s.pending := by
  cases n <;> rfl
@[simp] theorem State.free?_choices (n : Option BufferId) (s : State) : (s.free? n).choices = s.choices := by
  cases n <;> rfl
@[simp] theorem State.free?_branch (n : Option BufferId) (s : State) (d : Branch) : (s.free? n).branch d = s.branch d := by
  simp only [State.branch, State.free?_branches]

/-! ## Operations on the trunk alone -/

@[simp] theorem State.onTrunk_pool (f : TrunkPort → TrunkPort) (s : State) : (s.onTrunk f).pool = s.pool := rfl
@[simp] theorem State.onTrunk_map (f : TrunkPort → TrunkPort) (s : State) : (s.onTrunk f).map = s.map := rfl
@[simp] theorem State.onTrunk_branches (f : TrunkPort → TrunkPort) (s : State) : (s.onTrunk f).branches = s.branches := rfl
@[simp] theorem State.onTrunk_agent (f : TrunkPort → TrunkPort) (s : State) : (s.onTrunk f).agent = s.agent := rfl
@[simp] theorem State.onTrunk_rstLow (f : TrunkPort → TrunkPort) (s : State) : (s.onTrunk f).rstLow = s.rstLow := rfl
@[simp] theorem State.onTrunk_pending (f : TrunkPort → TrunkPort) (s : State) : (s.onTrunk f).pending = s.pending := rfl
@[simp] theorem State.onTrunk_choices (f : TrunkPort → TrunkPort) (s : State) : (s.onTrunk f).choices = s.choices := rfl
@[simp] theorem State.onTrunk_branch (f : TrunkPort → TrunkPort) (s : State) (d : Branch) : (s.onTrunk f).branch d = s.branch d := by
  simp only [State.branch, State.onTrunk_branches]

@[simp] theorem State.onTrunk_trunk (f : TrunkPort → TrunkPort) (s : State) : (s.onTrunk f).trunk = f s.trunk := rfl

@[simp] theorem State.countTrunk_pool (c : TrunkCounter) (s : State) : (s.countTrunk c).pool = s.pool := rfl
@[simp] theorem State.countTrunk_map (c : TrunkCounter) (s : State) : (s.countTrunk c).map = s.map := rfl
@[simp] theorem State.countTrunk_branches (c : TrunkCounter) (s : State) : (s.countTrunk c).branches = s.branches := rfl
@[simp] theorem State.countTrunk_agent (c : TrunkCounter) (s : State) : (s.countTrunk c).agent = s.agent := rfl
@[simp] theorem State.countTrunk_rstLow (c : TrunkCounter) (s : State) : (s.countTrunk c).rstLow = s.rstLow := rfl
@[simp] theorem State.countTrunk_pending (c : TrunkCounter) (s : State) : (s.countTrunk c).pending = s.pending := rfl
@[simp] theorem State.countTrunk_choices (c : TrunkCounter) (s : State) : (s.countTrunk c).choices = s.choices := rfl
@[simp] theorem State.countTrunk_branch (c : TrunkCounter) (s : State) (d : Branch) : (s.countTrunk c).branch d = s.branch d := by
  simp only [State.branch, State.countTrunk_branches]

@[simp] theorem State.countTrunk_trunk (c : TrunkCounter) (s : State) : (s.countTrunk c).trunk = s.trunk.count c := rfl

/-- The start of a transmission changes the upstream queue and the transmitter only. -/
theorem State.startTransmission_eq (s : State) : s.startTransmission = s.setTrunk { s.trunk with
    upstream := s.startTransmission.trunk.upstream, transmitter := s.startTransmission.trunk.transmitter } := by
  unfold State.startTransmission
  cases h : s.trunk.upstream with
  | nil => rfl
  | cons i r => rfl

theorem State.startIfIdle_eq (s : State) : s.startIfIdle = s.setTrunk { s.trunk with
    upstream := s.startIfIdle.trunk.upstream, transmitter := s.startIfIdle.trunk.transmitter } := by
  unfold State.startIfIdle
  cases h : s.trunk.transmitter with
  | idle => exact State.startTransmission_eq s
  | spacing k => rfl
  | sending i x => rfl
  | stopping x => rfl

/-- An append changes the upstream queue and the transmitter only. -/
theorem State.appendUpstream_eq (i : UpItem) (s : State) : s.appendUpstream i = s.setTrunk { s.trunk with
    upstream := (s.appendUpstream i).trunk.upstream, transmitter := (s.appendUpstream i).trunk.transmitter } := by
  conv_lhs => rw [State.appendUpstream, State.startIfIdle_eq]
  rfl

@[simp] theorem State.startIfIdle_pool (s : State) : (s.startIfIdle).pool = s.pool := by
  rw [State.startIfIdle_eq]; rfl
@[simp] theorem State.startIfIdle_map (s : State) : (s.startIfIdle).map = s.map := by
  rw [State.startIfIdle_eq]; rfl
@[simp] theorem State.startIfIdle_branches (s : State) : (s.startIfIdle).branches = s.branches := by
  rw [State.startIfIdle_eq]; rfl
@[simp] theorem State.startIfIdle_agent (s : State) : (s.startIfIdle).agent = s.agent := by
  rw [State.startIfIdle_eq]; rfl
@[simp] theorem State.startIfIdle_rstLow (s : State) : (s.startIfIdle).rstLow = s.rstLow := by
  rw [State.startIfIdle_eq]; rfl
@[simp] theorem State.startIfIdle_pending (s : State) : (s.startIfIdle).pending = s.pending := by
  rw [State.startIfIdle_eq]; rfl
@[simp] theorem State.startIfIdle_choices (s : State) : (s.startIfIdle).choices = s.choices := by
  rw [State.startIfIdle_eq]; rfl
@[simp] theorem State.startIfIdle_branch (s : State) (d : Branch) : (s.startIfIdle).branch d = s.branch d := by
  simp only [State.branch, State.startIfIdle_branches]

@[simp] theorem State.startIfIdle_trunk_line (s : State) : (s.startIfIdle).trunk.line = s.trunk.line := by
  rw [State.startIfIdle_eq]; rfl
@[simp] theorem State.startIfIdle_trunk_assembler (s : State) : (s.startIfIdle).trunk.assembler = s.trunk.assembler := by
  rw [State.startIfIdle_eq]; rfl
@[simp] theorem State.startIfIdle_trunk_receiver (s : State) : (s.startIfIdle).trunk.receiver = s.trunk.receiver := by
  rw [State.startIfIdle_eq]; rfl
@[simp] theorem State.startIfIdle_trunk_phase (s : State) : (s.startIfIdle).trunk.phase = s.trunk.phase := by
  rw [State.startIfIdle_eq]; rfl
@[simp] theorem State.startIfIdle_trunk_wave (s : State) : (s.startIfIdle).trunk.wave = s.trunk.wave := by
  rw [State.startIfIdle_eq]; rfl
@[simp] theorem State.startIfIdle_trunk_rxSettings (s : State) : (s.startIfIdle).trunk.rxSettings = s.trunk.rxSettings := by
  rw [State.startIfIdle_eq]; rfl
@[simp] theorem State.startIfIdle_trunk_txSettings (s : State) : (s.startIfIdle).trunk.txSettings = s.trunk.txSettings := by
  rw [State.startIfIdle_eq]; rfl
@[simp] theorem State.startIfIdle_trunk_refusals (s : State) : (s.startIfIdle).trunk.refusals = s.trunk.refusals := by
  rw [State.startIfIdle_eq]; rfl
@[simp] theorem State.startIfIdle_trunk_counters (s : State) : (s.startIfIdle).trunk.counters = s.trunk.counters := by
  rw [State.startIfIdle_eq]; rfl

@[simp] theorem State.appendUpstream_pool (i : UpItem) (s : State) : (s.appendUpstream i).pool = s.pool := by
  rw [State.appendUpstream_eq]; rfl
@[simp] theorem State.appendUpstream_map (i : UpItem) (s : State) : (s.appendUpstream i).map = s.map := by
  rw [State.appendUpstream_eq]; rfl
@[simp] theorem State.appendUpstream_branches (i : UpItem) (s : State) : (s.appendUpstream i).branches = s.branches := by
  rw [State.appendUpstream_eq]; rfl
@[simp] theorem State.appendUpstream_agent (i : UpItem) (s : State) : (s.appendUpstream i).agent = s.agent := by
  rw [State.appendUpstream_eq]; rfl
@[simp] theorem State.appendUpstream_rstLow (i : UpItem) (s : State) : (s.appendUpstream i).rstLow = s.rstLow := by
  rw [State.appendUpstream_eq]; rfl
@[simp] theorem State.appendUpstream_pending (i : UpItem) (s : State) : (s.appendUpstream i).pending = s.pending := by
  rw [State.appendUpstream_eq]; rfl
@[simp] theorem State.appendUpstream_choices (i : UpItem) (s : State) : (s.appendUpstream i).choices = s.choices := by
  rw [State.appendUpstream_eq]; rfl
@[simp] theorem State.appendUpstream_branch (i : UpItem) (s : State) (d : Branch) : (s.appendUpstream i).branch d = s.branch d := by
  simp only [State.branch, State.appendUpstream_branches]

@[simp] theorem State.appendUpstream_trunk_line (i : UpItem) (s : State) : (s.appendUpstream i).trunk.line = s.trunk.line := by
  rw [State.appendUpstream_eq]; rfl
@[simp] theorem State.appendUpstream_trunk_assembler (i : UpItem) (s : State) : (s.appendUpstream i).trunk.assembler = s.trunk.assembler := by
  rw [State.appendUpstream_eq]; rfl
@[simp] theorem State.appendUpstream_trunk_receiver (i : UpItem) (s : State) : (s.appendUpstream i).trunk.receiver = s.trunk.receiver := by
  rw [State.appendUpstream_eq]; rfl
@[simp] theorem State.appendUpstream_trunk_phase (i : UpItem) (s : State) : (s.appendUpstream i).trunk.phase = s.trunk.phase := by
  rw [State.appendUpstream_eq]; rfl
@[simp] theorem State.appendUpstream_trunk_wave (i : UpItem) (s : State) : (s.appendUpstream i).trunk.wave = s.trunk.wave := by
  rw [State.appendUpstream_eq]; rfl
@[simp] theorem State.appendUpstream_trunk_rxSettings (i : UpItem) (s : State) : (s.appendUpstream i).trunk.rxSettings = s.trunk.rxSettings := by
  rw [State.appendUpstream_eq]; rfl
@[simp] theorem State.appendUpstream_trunk_txSettings (i : UpItem) (s : State) : (s.appendUpstream i).trunk.txSettings = s.trunk.txSettings := by
  rw [State.appendUpstream_eq]; rfl
@[simp] theorem State.appendUpstream_trunk_refusals (i : UpItem) (s : State) : (s.appendUpstream i).trunk.refusals = s.trunk.refusals := by
  rw [State.appendUpstream_eq]; rfl
@[simp] theorem State.appendUpstream_trunk_counters (i : UpItem) (s : State) : (s.appendUpstream i).trunk.counters = s.trunk.counters := by
  rw [State.appendUpstream_eq]; rfl

/-! ## Operations on one branch alone -/

@[simp] theorem State.onBranch_pool (b : Branch) (f : BranchPort → BranchPort) (s : State) : (s.onBranch b f).pool = s.pool := rfl
@[simp] theorem State.onBranch_map (b : Branch) (f : BranchPort → BranchPort) (s : State) : (s.onBranch b f).map = s.map := rfl
@[simp] theorem State.onBranch_trunk (b : Branch) (f : BranchPort → BranchPort) (s : State) : (s.onBranch b f).trunk = s.trunk := rfl
@[simp] theorem State.onBranch_agent (b : Branch) (f : BranchPort → BranchPort) (s : State) : (s.onBranch b f).agent = s.agent := rfl
@[simp] theorem State.onBranch_rstLow (b : Branch) (f : BranchPort → BranchPort) (s : State) : (s.onBranch b f).rstLow = s.rstLow := rfl
@[simp] theorem State.onBranch_pending (b : Branch) (f : BranchPort → BranchPort) (s : State) : (s.onBranch b f).pending = s.pending := rfl
@[simp] theorem State.onBranch_choices (b : Branch) (f : BranchPort → BranchPort) (s : State) : (s.onBranch b f).choices = s.choices := rfl

@[simp] theorem State.onBranch_same (b : Branch) (f : BranchPort → BranchPort) (s : State) :
    (s.onBranch b f).branch b = f (s.branch b) := State.setBranch_same s b _

theorem State.onBranch_of_ne {b c : Branch} (f : BranchPort → BranchPort) (s : State) (h : c ≠ b) :
    (s.onBranch b f).branch c = s.branch c := State.setBranch_of_ne s _ h

@[simp] theorem State.countBranch_pool (b : Branch) (c : BranchCounter) (s : State) : (s.countBranch b c).pool = s.pool := rfl
@[simp] theorem State.countBranch_map (b : Branch) (c : BranchCounter) (s : State) : (s.countBranch b c).map = s.map := rfl
@[simp] theorem State.countBranch_trunk (b : Branch) (c : BranchCounter) (s : State) : (s.countBranch b c).trunk = s.trunk := rfl
@[simp] theorem State.countBranch_agent (b : Branch) (c : BranchCounter) (s : State) : (s.countBranch b c).agent = s.agent := rfl
@[simp] theorem State.countBranch_rstLow (b : Branch) (c : BranchCounter) (s : State) : (s.countBranch b c).rstLow = s.rstLow := rfl
@[simp] theorem State.countBranch_pending (b : Branch) (c : BranchCounter) (s : State) : (s.countBranch b c).pending = s.pending := rfl
@[simp] theorem State.countBranch_choices (b : Branch) (c : BranchCounter) (s : State) : (s.countBranch b c).choices = s.choices := rfl

@[simp] theorem State.countBranch_same (b : Branch) (c : BranchCounter) (s : State) :
    (s.countBranch b c).branch b = (s.branch b).count c := State.setBranch_same s b _

theorem State.countBranch_of_ne {b d : Branch} (c : BranchCounter) (s : State) (h : d ≠ b) :
    (s.countBranch b c).branch d = s.branch d := State.setBranch_of_ne s _ h

@[simp] theorem State.setSlot_pool (b : Branch) (x : Option Slot) (s : State) : (s.setSlot b x).pool = s.pool := rfl
@[simp] theorem State.setSlot_map (b : Branch) (x : Option Slot) (s : State) : (s.setSlot b x).map = s.map := rfl
@[simp] theorem State.setSlot_trunk (b : Branch) (x : Option Slot) (s : State) : (s.setSlot b x).trunk = s.trunk := rfl
@[simp] theorem State.setSlot_agent (b : Branch) (x : Option Slot) (s : State) : (s.setSlot b x).agent = s.agent := rfl
@[simp] theorem State.setSlot_rstLow (b : Branch) (x : Option Slot) (s : State) : (s.setSlot b x).rstLow = s.rstLow := rfl
@[simp] theorem State.setSlot_pending (b : Branch) (x : Option Slot) (s : State) : (s.setSlot b x).pending = s.pending := rfl
@[simp] theorem State.setSlot_choices (b : Branch) (x : Option Slot) (s : State) : (s.setSlot b x).choices = s.choices := rfl

@[simp] theorem State.setSlot_same (b : Branch) (x : Option Slot) (s : State) :
    (s.setSlot b x).branch b = { s.branch b with slot := x } := State.setBranch_same s b _

theorem State.setSlot_of_ne {b c : Branch} (x : Option Slot) (s : State) (h : c ≠ b) :
    (s.setSlot b x).branch c = s.branch c := State.setBranch_of_ne s _ h

/-! ## Appending upstream (R135, R138, R139) -/

/-- An item joins behind everything bound for the master. -/
theorem State.appendUpstream_items (i : UpItem) (s : State) :
    (s.appendUpstream i).trunk.transmitter.items ++ (s.appendUpstream i).trunk.upstream
      = (s.trunk.transmitter.items ++ s.trunk.upstream) ++ [i] := by
  cases h : s.trunk.transmitter <;> cases hu : s.trunk.upstream <;>
    simp [State.appendUpstream, State.startIfIdle, State.startTransmission, h, hu, TrunkTransmitter.items]

/-! ## The slot close and its neighbours (R57, R58) -/

@[simp] theorem State.closeSlot_map (b : Branch) (x : Slot) (r : FaultReason) (s : State) : (s.closeSlot b x r).map = s.map := by
  unfold State.closeSlot; dsimp only; split <;> simp
@[simp] theorem State.closeSlot_agent (b : Branch) (x : Slot) (r : FaultReason) (s : State) : (s.closeSlot b x r).agent = s.agent := by
  unfold State.closeSlot; dsimp only; split <;> simp
@[simp] theorem State.closeSlot_rstLow (b : Branch) (x : Slot) (r : FaultReason) (s : State) : (s.closeSlot b x r).rstLow = s.rstLow := by
  unfold State.closeSlot; dsimp only; split <;> simp
@[simp] theorem State.closeSlot_pending (b : Branch) (x : Slot) (r : FaultReason) (s : State) : (s.closeSlot b x r).pending = s.pending := by
  unfold State.closeSlot; dsimp only; split <;> simp
@[simp] theorem State.closeSlot_choices (b : Branch) (x : Slot) (r : FaultReason) (s : State) : (s.closeSlot b x r).choices = s.choices := by
  unfold State.closeSlot; dsimp only; split <;> simp

/-- What the close of a slot leaves of its branch. -/
theorem State.closeSlot_same (b : Branch) (x : Slot) (r : FaultReason) (s : State) :
    (s.closeSlot b x r).branch b = { s.branch b with
      slot := none, lastClosed := some { localAddress := x.localAddress, seq := x.seq }
      counters := ((s.branch b).count .faults).counters } := by
  unfold State.closeSlot; dsimp only; split <;> simp [BranchPort.count]

theorem State.closeSlot_of_ne {b c : Branch} (x : Slot) (r : FaultReason) (s : State) (h : c ≠ b) :
    (s.closeSlot b x r).branch c = s.branch c := by
  unfold State.closeSlot; dsimp only; split <;> simp [State.onBranch_of_ne _ _ h, State.countBranch_of_ne _ _ h]

/-- The close of a slot does not touch the free list; the reservation count falls where one was held. -/
theorem State.closeSlot_pool (b : Branch) (x : Slot) (r : FaultReason) (s : State) :
    (s.closeSlot b x r).pool.free = s.pool.free ∧ (s.closeSlot b x r).pool.waiting = s.pool.waiting ∧
    (s.closeSlot b x r).pool.reserved = if x.phase.holdsReservation then s.pool.reserved - 1 else s.pool.reserved := by
  unfold State.closeSlot
  dsimp only
  split <;> simp <;> simp [State.unreserve, State.buildFault, State.setBuffer]


@[simp] theorem State.closeSlot_trunk_line (b : Branch) (x : Slot) (r : FaultReason) (s : State) :
    (s.closeSlot b x r).trunk.line = s.trunk.line := by
  unfold State.closeSlot; dsimp only; split <;> simp
@[simp] theorem State.closeSlot_trunk_assembler (b : Branch) (x : Slot) (r : FaultReason) (s : State) :
    (s.closeSlot b x r).trunk.assembler = s.trunk.assembler := by
  unfold State.closeSlot; dsimp only; split <;> simp
@[simp] theorem State.closeSlot_trunk_receiver (b : Branch) (x : Slot) (r : FaultReason) (s : State) :
    (s.closeSlot b x r).trunk.receiver = s.trunk.receiver := by
  unfold State.closeSlot; dsimp only; split <;> simp
@[simp] theorem State.closeSlot_trunk_phase (b : Branch) (x : Slot) (r : FaultReason) (s : State) :
    (s.closeSlot b x r).trunk.phase = s.trunk.phase := by
  unfold State.closeSlot; dsimp only; split <;> simp
@[simp] theorem State.closeSlot_trunk_wave (b : Branch) (x : Slot) (r : FaultReason) (s : State) :
    (s.closeSlot b x r).trunk.wave = s.trunk.wave := by
  unfold State.closeSlot; dsimp only; split <;> simp
@[simp] theorem State.closeSlot_trunk_rxSettings (b : Branch) (x : Slot) (r : FaultReason) (s : State) :
    (s.closeSlot b x r).trunk.rxSettings = s.trunk.rxSettings := by
  unfold State.closeSlot; dsimp only; split <;> simp
@[simp] theorem State.closeSlot_trunk_txSettings (b : Branch) (x : Slot) (r : FaultReason) (s : State) :
    (s.closeSlot b x r).trunk.txSettings = s.trunk.txSettings := by
  unfold State.closeSlot; dsimp only; split <;> simp
@[simp] theorem State.closeSlot_trunk_refusals (b : Branch) (x : Slot) (r : FaultReason) (s : State) :
    (s.closeSlot b x r).trunk.refusals = s.trunk.refusals := by
  unfold State.closeSlot; dsimp only; split <;> simp
@[simp] theorem State.closeSlot_trunk_counters (b : Branch) (x : Slot) (r : FaultReason) (s : State) :
    (s.closeSlot b x r).trunk.counters = s.trunk.counters := by
  unfold State.closeSlot; dsimp only; split <;> simp

end Sys2Proof.Machine
end

