-- ==== Sys2Proof/Laws/Buffers.lean ====
section
/-! SUPPORT. What each shared operation does to the buffers, the free list and the reservation count (Section 5): a buffer
is read after an operation as one of these lemmas says. -/

namespace Sys2Proof.Machine

theorem vector_get_set {α : Type} {k : Nat} (v : Vector α k) (i j : Fin k) (x : α) :
    (v.set i x).get j = if j = i then x else v.get j := by
  have h : (v.set i x).get j = (v.set i x)[j.val] := rfl
  rw [h, Vector.getElem_set]
  by_cases h' : j = i
  · simp [h']
  · rw [if_neg h', if_neg fun e => h' (Fin.ext e.symm)]
    rfl

/-! ## Reading a buffer -/

theorem State.setBuffer_buffer (n m : BufferId) (x : Buffer) (s : State) :
    (State.setBuffer n x s).buffer m = if m = n then x else s.buffer m := vector_get_set s.pool.buffers n m x

@[simp] theorem State.setBuffer_buffer_same (n : BufferId) (x : Buffer) (s : State) : (State.setBuffer n x s).buffer n = x := by
  simp [State.setBuffer_buffer]

theorem State.setBuffer_buffer_of_ne {n m : BufferId} (x : Buffer) (s : State) (h : m ≠ n) :
    (State.setBuffer n x s).buffer m = s.buffer m := by
  simp [State.setBuffer_buffer, h]

@[simp] theorem State.setBranch_buffer (s : State) (b : Branch) (p : BranchPort) (m : BufferId) : (s.setBranch b p).buffer m = (s).buffer m := by
  simp [State.buffer]
@[simp] theorem State.setBranch_chars (s : State) (b : Branch) (p : BranchPort) (m : BufferId) : (s.setBranch b p).chars m = (s).chars m := by
  simp [State.chars, State.buffer]
@[simp] theorem State.setBranch_desc (s : State) (b : Branch) (p : BranchPort) (m : BufferId) : (s.setBranch b p).desc m = (s).desc m := by
  simp [State.desc, State.buffer]

@[simp] theorem State.setTrunk_buffer (s : State) (t : TrunkPort) (m : BufferId) : (s.setTrunk t).buffer m = (s).buffer m := by
  simp [State.buffer]
@[simp] theorem State.setTrunk_chars (s : State) (t : TrunkPort) (m : BufferId) : (s.setTrunk t).chars m = (s).chars m := by
  simp [State.chars, State.buffer]
@[simp] theorem State.setTrunk_desc (s : State) (t : TrunkPort) (m : BufferId) : (s.setTrunk t).desc m = (s).desc m := by
  simp [State.desc, State.buffer]

@[simp] theorem State.setAgent_buffer (s : State) (a : Agent) (m : BufferId) : (s.setAgent a).buffer m = (s).buffer m := by
  simp [State.buffer]
@[simp] theorem State.setAgent_chars (s : State) (a : Agent) (m : BufferId) : (s.setAgent a).chars m = (s).chars m := by
  simp [State.chars, State.buffer]
@[simp] theorem State.setAgent_desc (s : State) (a : Agent) (m : BufferId) : (s.setAgent a).desc m = (s).desc m := by
  simp [State.desc, State.buffer]

@[simp] theorem State.setMap_buffer (s : State) (a : StationMap) (m : BufferId) : (s.setMap a).buffer m = (s).buffer m := by
  simp [State.buffer]
@[simp] theorem State.setMap_chars (s : State) (a : StationMap) (m : BufferId) : (s.setMap a).chars m = (s).chars m := by
  simp [State.chars, State.buffer]
@[simp] theorem State.setMap_desc (s : State) (a : StationMap) (m : BufferId) : (s.setMap a).desc m = (s).desc m := by
  simp [State.desc, State.buffer]

@[simp] theorem State.onBranch_buffer (s : State) (b : Branch) (f : BranchPort → BranchPort) (m : BufferId) : (s.onBranch b f).buffer m = (s).buffer m := by
  simp [State.buffer]
@[simp] theorem State.onBranch_chars (s : State) (b : Branch) (f : BranchPort → BranchPort) (m : BufferId) : (s.onBranch b f).chars m = (s).chars m := by
  simp [State.chars, State.buffer]
@[simp] theorem State.onBranch_desc (s : State) (b : Branch) (f : BranchPort → BranchPort) (m : BufferId) : (s.onBranch b f).desc m = (s).desc m := by
  simp [State.desc, State.buffer]

@[simp] theorem State.onTrunk_buffer (s : State) (f : TrunkPort → TrunkPort) (m : BufferId) : (s.onTrunk f).buffer m = (s).buffer m := by
  simp [State.buffer]
@[simp] theorem State.onTrunk_chars (s : State) (f : TrunkPort → TrunkPort) (m : BufferId) : (s.onTrunk f).chars m = (s).chars m := by
  simp [State.chars, State.buffer]
@[simp] theorem State.onTrunk_desc (s : State) (f : TrunkPort → TrunkPort) (m : BufferId) : (s.onTrunk f).desc m = (s).desc m := by
  simp [State.desc, State.buffer]

@[simp] theorem State.setSlot_buffer (s : State) (b : Branch) (x : Option Slot) (m : BufferId) : (s.setSlot b x).buffer m = (s).buffer m := by
  simp [State.buffer]
@[simp] theorem State.setSlot_chars (s : State) (b : Branch) (x : Option Slot) (m : BufferId) : (s.setSlot b x).chars m = (s).chars m := by
  simp [State.chars, State.buffer]
@[simp] theorem State.setSlot_desc (s : State) (b : Branch) (x : Option Slot) (m : BufferId) : (s.setSlot b x).desc m = (s).desc m := by
  simp [State.desc, State.buffer]

@[simp] theorem State.countBranch_buffer (s : State) (b : Branch) (c : BranchCounter) (m : BufferId) : (s.countBranch b c).buffer m = (s).buffer m := by
  simp [State.buffer]
@[simp] theorem State.countBranch_chars (s : State) (b : Branch) (c : BranchCounter) (m : BufferId) : (s.countBranch b c).chars m = (s).chars m := by
  simp [State.chars, State.buffer]
@[simp] theorem State.countBranch_desc (s : State) (b : Branch) (c : BranchCounter) (m : BufferId) : (s.countBranch b c).desc m = (s).desc m := by
  simp [State.desc, State.buffer]

@[simp] theorem State.countTrunk_buffer (s : State) (c : TrunkCounter) (m : BufferId) : (s.countTrunk c).buffer m = (s).buffer m := by
  simp [State.buffer]
@[simp] theorem State.countTrunk_chars (s : State) (c : TrunkCounter) (m : BufferId) : (s.countTrunk c).chars m = (s).chars m := by
  simp [State.chars, State.buffer]
@[simp] theorem State.countTrunk_desc (s : State) (c : TrunkCounter) (m : BufferId) : (s.countTrunk c).desc m = (s).desc m := by
  simp [State.desc, State.buffer]

@[simp] theorem State.appendUpstream_buffer (s : State) (i : UpItem) (m : BufferId) : (s.appendUpstream i).buffer m = (s).buffer m := by
  simp [State.buffer]
@[simp] theorem State.appendUpstream_chars (s : State) (i : UpItem) (m : BufferId) : (s.appendUpstream i).chars m = (s).chars m := by
  simp [State.chars, State.buffer]
@[simp] theorem State.appendUpstream_desc (s : State) (i : UpItem) (m : BufferId) : (s.appendUpstream i).desc m = (s).desc m := by
  simp [State.desc, State.buffer]

@[simp] theorem State.startIfIdle_buffer (s : State) (m : BufferId) : (s.startIfIdle).buffer m = (s).buffer m := by
  simp [State.buffer]
@[simp] theorem State.startIfIdle_chars (s : State) (m : BufferId) : (s.startIfIdle).chars m = (s).chars m := by
  simp [State.chars, State.buffer]
@[simp] theorem State.startIfIdle_desc (s : State) (m : BufferId) : (s.startIfIdle).desc m = (s).desc m := by
  simp [State.desc, State.buffer]

/-! ## The pool of each operation -/

@[simp] theorem State.setBuffer_free (n : BufferId) (x : Buffer) (s : State) : (State.setBuffer n x s).pool.free = s.pool.free := rfl
@[simp] theorem State.setBuffer_reserved (n : BufferId) (x : Buffer) (s : State) :
    (State.setBuffer n x s).pool.reserved = s.pool.reserved := rfl
@[simp] theorem State.setBuffer_waiting (n : BufferId) (x : Buffer) (s : State) :
    (State.setBuffer n x s).pool.waiting = s.pool.waiting := rfl

@[simp] theorem State.free_free (n : BufferId) (s : State) : (s.free n).pool.free = s.pool.free ++ [n] := rfl
@[simp] theorem State.free_reserved (n : BufferId) (s : State) : (s.free n).pool.reserved = s.pool.reserved := rfl
@[simp] theorem State.free_waiting (n : BufferId) (s : State) : (s.free n).pool.waiting = s.pool.waiting := rfl

/-- A free buffer keeps its characters and all of its descriptor but the reference count. -/
theorem State.free_buffer (n m : BufferId) (s : State) : (s.free n).buffer m =
    if m = n then { s.buffer n with desc := { (s.buffer n).desc with refs := 0 } } else s.buffer m :=
  vector_get_set s.pool.buffers n m _

@[simp] theorem State.free_chars (n m : BufferId) (s : State) : (s.free n).chars m = s.chars m := by
  unfold State.chars; rw [State.free_buffer]; split <;> simp_all

theorem State.free_desc (n m : BufferId) (s : State) : (s.free n).desc m =
    if m = n then { s.desc n with refs := 0 } else s.desc m := by
  unfold State.desc; rw [State.free_buffer]; split <;> rfl

@[simp] theorem State.free_desc_kind (n m : BufferId) (s : State) : ((s.free n).desc m).kind = (s.desc m).kind := by
  rw [State.free_desc]; split <;> simp_all

@[simp] theorem State.free_desc_seq (n m : BufferId) (s : State) : ((s.free n).desc m).seq = (s.desc m).seq := by
  rw [State.free_desc]; split <;> simp_all

@[simp] theorem State.free_desc_route (n m : BufferId) (s : State) : ((s.free n).desc m).route = (s.desc m).route := by
  rw [State.free_desc]; split <;> simp_all

@[simp] theorem State.buildFault_free (n : BufferId) (a : Byte) (q : Sequence) (r : FaultReason) (b k : Nat) (s : State) :
    (s.buildFault n a q r b k).pool.free = s.pool.free := rfl
@[simp] theorem State.buildFault_reserved (n : BufferId) (a : Byte) (q : Sequence) (r : FaultReason) (b k : Nat) (s : State) :
    (s.buildFault n a q r b k).pool.reserved = s.pool.reserved := rfl
@[simp] theorem State.buildFault_waiting (n : BufferId) (a : Byte) (q : Sequence) (r : FaultReason) (b k : Nat) (s : State) :
    (s.buildFault n a q r b k).pool.waiting = s.pool.waiting := rfl

theorem State.buildFault_buffer (n m : BufferId) (a : Byte) (q : Sequence) (r : FaultReason) (b k : Nat) (s : State) :
    (s.buildFault n a q r b k).buffer m = if m = n then
      { chars := faultFrame a q r b k, desc := { s.desc n with length := 8, kind := .fault, refs := 1, route := none } }
      else s.buffer m := State.setBuffer_buffer n m _ s

@[simp] theorem State.rewrite_free (n : BufferId) (a : Byte) (s : State) : (s.rewrite n a).pool.free = s.pool.free := rfl
@[simp] theorem State.rewrite_reserved (n : BufferId) (a : Byte) (s : State) : (s.rewrite n a).pool.reserved = s.pool.reserved := rfl
@[simp] theorem State.rewrite_waiting (n : BufferId) (a : Byte) (s : State) : (s.rewrite n a).pool.waiting = s.pool.waiting := rfl

/-- A rewrite changes the characters of its buffer and no descriptor. -/
theorem State.rewrite_buffer (n m : BufferId) (a : Byte) (s : State) : (s.rewrite n a).buffer m =
    if m = n then { s.buffer n with chars := rewriteAddress a (s.chars n) } else s.buffer m := State.setBuffer_buffer n m _ s

@[simp] theorem State.rewrite_desc (n m : BufferId) (a : Byte) (s : State) : (s.rewrite n a).desc m = s.desc m := by
  unfold State.desc; rw [State.rewrite_buffer]; split <;> simp_all

/-- A release of a reference: the buffer's descriptor counts one less, and at 0 it joins the tail of the free list. -/
theorem State.releaseRef_buffer (n m : BufferId) (s : State) : (s.releaseRef n).buffer m =
    if m = n then { s.buffer n with desc := { s.desc n with refs := (s.desc n).refs - 1 } } else s.buffer m := by
  unfold State.releaseRef
  dsimp only
  split
  · next h =>
    rw [State.free_buffer]
    have h' : (s.desc n).refs - 1 = 0 := Nat.sub_eq_zero_of_le h
    rw [h']
    rfl
  · exact State.setBuffer_buffer n m _ s

@[simp] theorem State.releaseRef_reserved (n : BufferId) (s : State) : (s.releaseRef n).pool.reserved = s.pool.reserved := by
  unfold State.releaseRef; dsimp only; split <;> rfl

@[simp] theorem State.releaseRef_waiting (n : BufferId) (s : State) : (s.releaseRef n).pool.waiting = s.pool.waiting := by
  unfold State.releaseRef; dsimp only; split <;> rfl

theorem State.releaseRef_free (n : BufferId) (s : State) :
    (s.releaseRef n).pool.free = if (s.desc n).refs ≤ 1 then s.pool.free ++ [n] else s.pool.free := by
  unfold State.releaseRef
  dsimp only
  split
  · next h => rw [if_pos (show (s.desc n).refs ≤ 1 from h)]; rfl
  · next h => rw [if_neg (show ¬ (s.desc n).refs ≤ 1 from h)]; rfl

@[simp] theorem State.releaseRef_chars (n m : BufferId) (s : State) : (s.releaseRef n).chars m = s.chars m := by
  unfold State.chars; rw [State.releaseRef_buffer]; split <;> simp_all

@[simp] theorem State.releaseRef_desc_kind (n m : BufferId) (s : State) : ((s.releaseRef n).desc m).kind = (s.desc m).kind := by
  unfold State.desc; rw [State.releaseRef_buffer]; split <;> simp_all [State.desc]

@[simp] theorem State.releaseRef_desc_seq (n m : BufferId) (s : State) : ((s.releaseRef n).desc m).seq = (s.desc m).seq := by
  unfold State.desc; rw [State.releaseRef_buffer]; split <;> simp_all [State.desc]

@[simp] theorem State.releaseRef_desc_route (n m : BufferId) (s : State) :
    ((s.releaseRef n).desc m).route = (s.desc m).route := by
  unfold State.desc; rw [State.releaseRef_buffer]; split <;> simp_all [State.desc]

/-! ## A close with a fault -/

@[simp] theorem State.closeSlot_free (b : Branch) (x : Slot) (r : FaultReason) (s : State) :
    (s.closeSlot b x r).pool.free = s.pool.free := by
  exact (State.closeSlot_pool b x r s).1

/-- A close releases the reservation that the slot held. -/
theorem State.closeSlot_reserved (b : Branch) (x : Slot) (r : FaultReason) (s : State) :
    (s.closeSlot b x r).pool.reserved = s.pool.reserved - (if x.phase.holdsReservation then 1 else 0) := by
  rw [(State.closeSlot_pool b x r s).2.2]; split <;> rfl

/-- A close writes the request buffer alone. -/
theorem State.closeSlot_buffer (b : Branch) (x : Slot) (r : FaultReason) (s : State) (m : BufferId) :
    (s.closeSlot b x r).buffer m = if m = x.request then
      { chars := faultFrame x.trunkAddress x.seq r b.number x.attempts,
        desc := { s.desc x.request with length := 8, kind := .fault, refs := 1, route := none } } else s.buffer m := by
  unfold State.closeSlot
  dsimp only
  split <;> exact (by simp [State.unreserve]; exact State.buildFault_buffer x.request m x.trunkAddress x.seq r b.number x.attempts s)

/-- What an append does to the trunk depends on the trunk and the buffers alone. -/
theorem State.appendUpstream_trunk_congr (i : UpItem) (s t : State) (h1 : s.trunk = t.trunk)
    (h2 : s.pool.buffers = t.pool.buffers) : (s.appendUpstream i).trunk = (t.appendUpstream i).trunk := by
  have hf : ∀ x, s.itemChars x = t.itemChars x := by
    intro x; cases x <;> simp [State.itemChars, State.frameChars, State.chars, State.desc, State.buffer, h2]
  unfold State.appendUpstream State.startIfIdle
  simp only [State.setTrunk_trunk, h1]
  split <;> try rfl
  unfold State.startTransmission
  simp only [State.setTrunk_trunk]
  cases hu : t.trunk.upstream ++ [i] with
  | nil => simp
  | cons x l =>
    have : ∀ (u : State) tt, (u.setTrunk tt).itemChars x = u.itemChars x := by intro u tt; cases x <;> rfl
    simp [this, hf]

end Sys2Proof.Machine
end

