-- ==== Sys2Proof/Laws/Commands.lean ====
section
/-! SUPPORT. What the completion of a command comes to (R171 to R176): the one lemma that every command's statement goes
through. -/

namespace Sys2Proof.Machine

@[simp] theorem State.beginCommand_pool (s : State) : s.beginCommand.pool = s.pool := by
  unfold State.beginCommand; split <;> rfl
@[simp] theorem State.beginCommand_buffer (s : State) (m : BufferId) : s.beginCommand.buffer m = s.buffer m := by
  rw [State.buffer, State.beginCommand_pool, State.buffer]
@[simp] theorem State.beginCommand_map (s : State) : s.beginCommand.map = s.map := by
  unfold State.beginCommand; split <;> rfl
@[simp] theorem State.beginCommand_branches (s : State) : s.beginCommand.branches = s.branches := by
  unfold State.beginCommand; split <;> rfl
@[simp] theorem State.beginCommand_trunk (s : State) : s.beginCommand.trunk = s.trunk := by
  unfold State.beginCommand; split <;> rfl
@[simp] theorem State.beginCommand_rstLow (s : State) : s.beginCommand.rstLow = s.rstLow := by
  unfold State.beginCommand; split <;> rfl
@[simp] theorem State.beginCommand_pending (s : State) : s.beginCommand.pending = s.pending := by
  unfold State.beginCommand; split <;> rfl
@[simp] theorem State.beginCommand_choices (s : State) : s.beginCommand.choices = s.choices := by
  unfold State.beginCommand; split <;> rfl

/-- The time of a command depends on the pool's buffers and the trunk's receive settings alone. -/
theorem State.limitOfNext_congr {s t : State} (hb : s.pool.buffers = t.pool.buffers) (hr : s.trunk.rxSettings = t.trunk.rxSettings)
    (rest : List BufferId) : s.limitOfNext rest = t.limitOfNext rest := by
  match rest with
  | [] => rfl
  | n :: _ =>
    have hc : s.chars n = t.chars n := by rw [State.chars, State.chars, State.buffer, State.buffer, hb]
    rw [State.limitOfNext, State.limitOfNext, State.limitOf, State.limitOf, hc, hr]

@[simp] theorem State.limitOfNext_beginCommand (s : State) (rest : List BufferId) :
    s.beginCommand.limitOfNext rest = s.limitOfNext rest := State.limitOfNext_congr (by simp) (by simp) rest

@[simp] theorem State.limitOfNext_setAgent (s : State) (a : Agent) (rest : List BufferId) :
    (s.setAgent a).limitOfNext rest = s.limitOfNext rest := State.limitOfNext_congr rfl rfl rest

@[simp] theorem State.limitOfNext_updateWaiting (s : State) (rest : List BufferId) :
    s.updateWaiting.limitOfNext rest = s.limitOfNext rest := State.limitOfNext_congr rfl rfl rest

/-- The command at the head of the agent queue begins with its own time, and nothing else changes (R171, R172). -/
theorem State.beginCommand_agent (s : State) :
    s.beginCommand.agent = { s.agent with left := s.limitOfNext s.agent.queue } := by
  unfold State.beginCommand
  split <;> rename_i h <;> rw [h] <;> rfl

/-- A completion is possible for the command that executes, and takes the outcome that `own` gives. -/
theorem execCommand_of_executing {s : State} {c : Command} {n : BufferId} {rest : List BufferId} (h : s.Executing c n rest)
    (own : State → List Byte → Completion) :
    execCommand c own s = .next
      (s.complete n (c.judge (commandOperands (s.chars n)) (own s (commandOperands (s.chars n))))).updateWaiting := by
  obtain ⟨h1, h2, h3⟩ := h
  simp [execCommand, takeEvent, h1, State.executes, h2, h3, State.completeAs, State.operandsOf]

/-- The completion of a command whose response carries nothing and whose effect leaves its own buffer, the agent queue and
the void flag alone is Concluded. -/
theorem State.complete_concluded {s u : State} {n : BufferId} {rest : List BufferId} {x : Completion}
    (hu : x.effect s = u) (hc : x.carry = .nothing) (hb : u.buffer n = s.buffer n)
    (huq : u.agent.queue = n :: rest) (hv : u.agent.responseVoid = s.agent.responseVoid) :
    Concluded s u (s.complete n x).updateWaiting n rest x.verdict := by
  have hans : (u.countTrunk .mgmtCommands).answers n = true ↔ s.Answers n := by
    simp [State.answers, State.Answers, State.desc, hb, hv]
  constructor
  · intro h
    have hf : (u.countTrunk .mgmtCommands).finish n x = (u.countTrunk .mgmtCommands).respond n x.verdict .nothing := by
      unfold State.finish; rw [if_pos (hans.mpr h), hc]; rfl
    refine ⟨?_, ?_, ?_, ?_, ?_, ?_, ?_, ?_, ?_, ?_⟩
    · simp [Responded, State.complete, hu, hf, State.respond, State.nextCommand, State.updateWaiting]
      simp [State.setBuffer, State.codeOf, State.chars, State.desc]
    · have := State.appendUpstream_items (.frame n .nothing) (State.setBuffer n
        { chars := responseFrame (charAt ((u.countTrunk .mgmtCommands).buffer n).chars 0)
            ((u.countTrunk .mgmtCommands).buffer n).desc.seq ((u.countTrunk .mgmtCommands).codeOf n) x.verdict
          desc := { ((u.countTrunk .mgmtCommands).buffer n).desc with
            length := 7 + x.verdict.data.length, kind := .reply, refs := 1, route := none } } (u.countTrunk .mgmtCommands))
      simp [State.trunkItems, State.complete, hu, hf, State.respond, State.nextCommand]
      simpa [State.trunkItems, TrunkPort.count] using this
    · simp [State.complete, hu, hf, State.respond, State.nextCommand, State.updateWaiting]
    · simp [State.complete, hu, hf, State.respond, State.nextCommand]
      rw [State.appendUpstream_eq]
      simp [State.countTrunk, State.onTrunk, TrunkPort.count]
    · simp only [State.complete, hu, hf, State.updateWaiting_agent, State.limitOfNext_updateWaiting, State.nextCommand]
      rw [State.beginCommand_agent]
      simp [State.respond, huq]
    · simp [State.complete, hu, hf, State.respond, State.nextCommand]
    · simp [State.complete, hu, hf, State.respond, State.nextCommand]
    · simp [State.complete, hu, hf, State.respond, State.nextCommand]
    · simp [State.complete, hu, hf, State.respond, State.nextCommand]
    · simp [State.complete, hu, hf, State.respond, State.nextCommand]
  · intro h
    have hf : (u.countTrunk .mgmtCommands).finish n x = (u.countTrunk .mgmtCommands).free n := by
      unfold State.finish; rw [if_neg (fun h' => h (hans.mp h')), hc]; rfl
    refine ⟨?_, ?_, ?_, ?_, ?_, ?_, ?_, ?_⟩
    · simp [State.complete, hu, hf, State.nextCommand, State.updateWaiting]
      rfl
    · simp [State.complete, hu, hf, State.nextCommand]
      rfl
    · simp only [State.complete, hu, hf, State.updateWaiting_agent, State.limitOfNext_updateWaiting, State.nextCommand]
      rw [State.beginCommand_agent]
      simp [huq]
    · simp [State.complete, hu, hf, State.nextCommand]
    · simp [State.complete, hu, hf, State.nextCommand]
    · simp [State.complete, hu, hf, State.nextCommand]
    · simp [State.complete, hu, hf, State.nextCommand]
    · simp [State.complete, hu, hf, State.nextCommand]

/-! ## The waiting set at a completion (R97) -/

/-- The conditions of the waiting set rest on the branch and on the kind of the frame at its queue head alone. -/
theorem State.eligible_congr {s t : State} {b : Branch} (hq : (t.branch b).queue = (s.branch b).queue)
    (hs : (t.branch b).slot = (s.branch b).slot) (ha : (t.branch b).admission = (s.branch b).admission)
    (hl : (t.branch b).line = (s.branch b).line) (hk : ∀ n ∈ (s.branch b).queue.head?, (t.desc n).kind = (s.desc n).kind) :
    t.eligible b = s.eligible b := by
  have hh : t.headIsRequest b = s.headIsRequest b := by
    unfold State.headIsRequest
    rw [hq]
    cases h : (s.branch b).queue with
    | nil => rfl
    | cons n rest => simp only [hk n (by rw [h]; rfl)]
  simp only [State.eligible, hh, hs, ha, hl]

/-- The members that still meet the conditions keep their order, and the others that meet them join behind. -/
theorem State.updateWaiting_waiting (s : State) :
    let t := s.updateWaiting
    let stay := s.pool.waiting.filter t.eligible
    t.pool.waiting = stay ++ Branch.all.filter fun c => t.eligible c && !stay.contains c := rfl

@[simp] theorem State.updateWaiting_buffer (s : State) (m : BufferId) : s.updateWaiting.buffer m = s.buffer m := rfl

/-- Of a completed command whose response carries nothing the waiting set is that of its effect, and no buffer but its own
has another kind. -/
theorem State.complete_pool {s u : State} {n : BufferId} {x : Completion} (hu : x.effect s = u) (hc : x.carry = .nothing) :
    (s.complete n x).pool.waiting = u.pool.waiting ∧ ∀ m, m ≠ n → ((s.complete n x).desc m).kind = (u.desc m).kind := by
  subst hu
  unfold State.complete State.finish
  rw [hc]
  split
  · refine ⟨by simp [State.nextCommand, State.respond, State.leavePending], fun m hm => ?_⟩
    simp [State.desc, State.nextCommand, State.respond, State.leavePending, State.setBuffer_buffer_of_ne _ _ hm]
  · refine ⟨by simp [State.nextCommand, State.takesEffectNow], fun m hm => ?_⟩
    simp [State.desc, State.nextCommand, State.takesEffectNow, State.free_buffer, hm]

end Sys2Proof.Machine
end

