-- ==== Sys2Proof/Laws/Due.lean ====
section
/-! SUPPORT. Which events are due: membership in `State.due`, part by part. -/

namespace Sys2Proof.Machine

/-- An event listed under a condition. -/
@[simp] theorem mem_whenDue (i j : Instr) (c : Bool) : i ∈ whenDue c j ↔ c = true ∧ i = j := by
  cases c <;> simp [whenDue]

/-- A list made over the four branches. -/
theorem mem_flatMap_branches (i : Instr) (f : Branch → List Instr) : i ∈ Branch.all.flatMap f ↔ ∃ b, i ∈ f b := by
  rw [List.mem_flatMap]
  exact ⟨fun ⟨b, _, h⟩ => ⟨b, h⟩, fun ⟨b, h⟩ => ⟨b, by cases b <;> decide, h⟩⟩

/-- The completion that is open is that of the command at the head of the agent queue. -/
theorem State.mem_completion (s : State) (c : Command) :
    c.event ∈ s.completion ↔ ∃ n rest, s.agent.queue = n :: rest ∧ s.commandIn n = c := by
  unfold State.completion
  cases s.agent.queue with
  | nil => simp
  | cons n rest =>
    rw [List.mem_singleton]
    constructor
    · intro h
      refine ⟨n, rest, rfl, ?_⟩
      cases hc : s.commandIn n <;> rw [hc] at h <;> cases c <;> simp [Command.event] at h <;> rfl
    · rintro ⟨m, r, h, hc⟩
      rw [(List.cons.inj h).1, hc]

/-- An event that completes no command is not among the completions. -/
theorem State.not_mem_completion (s : State) (i : Instr) (h : ∀ c : Command, c.event ≠ i) : i ∉ s.completion := by
  unfold State.completion
  split
  · exact List.not_mem_nil
  · exact fun e => h _ (List.mem_singleton.mp e).symm

/-- The events due at a port. -/
theorem State.mem_portDue (s : State) (p : Port) (i : Instr) : i ∈ s.portDue p ↔
    (((s.receiver p).edge && s.takesEdge p) = true ∧ i = .startBitLeadingEdge p) ∨
    (((s.receiver p).falseStart && s.takesFalseStart p) = true ∧ i = .falseStart p) ∨
    (∃ c, (s.receiver p).char = some c ∧
      ((s.receiver p).delivers (s.receiveSettings p).format && s.isHearing p) = true ∧
      i = c.delivery (s.receiveSettings p).format p) ∨
    (s.gapTimerExpiryDue p = true ∧ i = .gapTimerExpiry p) ∨
    (s.stoppedCharacterEndDue p = true ∧ i = .stoppedCharacterEnd p) ∨
    ((s.isBreakIn p && (s.receiver p).level == .mark) = true ∧ i = .breakEnd p) ∨
    ((s.isSettling p && s.settled p) = true ∧ i = .settlingEnd p) := by
  unfold State.portDue State.receptionDue
  simp only [List.mem_append]
  cases (s.receiver p).char <;> simp [or_assoc]

/-- The events due at a branch, beside those of its port. -/
theorem State.mem_branchDue (s : State) (b : Branch) (i : Instr) : i ∈ s.branchDue b ↔
    i ∈ s.portDue (.branch b) ∨
    ((s.branch b).sendStartDue = true ∧ i = .sendStart b) ∨
    ((s.branch b).endOfTransmissionDue = true ∧ i = .endOfTransmission b) ∨
    ((s.branch b).replyTimerExpiryDue = true ∧ i = .replyTimerExpiry b) ∨
    (s.datagramStartDue b = true ∧ i = .datagramStart b) ∨
    ((s.branch b).datagramEndDue = true ∧ i = .datagramEnd b) ∨
    (((s.branch b).takesBreak && s.spaceFor2ct (.branch b)) = true ∧ i = .breakHeard b) ∨
    ((s.branch b).jamDue = true ∧ i = .jam b) ∨
    ((s.branch b).breakEmissionEndDue = true ∧ i = .breakEmissionEnd b) := by
  unfold State.branchDue
  simp only [List.mem_append, mem_whenDue, or_assoc]

/-- The events due on the trunk side and at the arbiter, beside those of its port. -/
theorem State.mem_trunkDue (s : State) (i : Instr) : i ∈ s.trunkDue ↔
    i ∈ s.portDue .trunk ∨
    ((s.trunk.line.hearsBreak && s.spaceFor2ct .trunk) = true ∧ i = .trunkLineReset) ∨
    (s.trunk.spacingEndDue = true ∧ i = .spacingEnd) ∨
    (s.trunk.transmissionEndDue = true ∧ i = .transmissionEnd) ∨
    (s.grantPossible = true ∧ i = .grant) := by
  unfold State.trunkDue
  simp only [List.mem_append, mem_whenDue, or_assoc]

/-- The events due in the part. -/
theorem State.mem_due (s : State) (i : Instr) : i ∈ s.due ↔
    i ∈ s.trunkDue ∨ (∃ b, i ∈ s.branchDue b) ∨ (s.agent.left = 0 ∧ i ∈ s.completion) := by
  unfold State.due
  rw [List.mem_append, List.mem_append, mem_flatMap_branches, or_assoc]
  split <;> simp_all

end Sys2Proof.Machine
end

