-- ==== Sys2Proof/Laws/LineReset.lean ====
section
/-! SUPPORT. What a pending trunk setting, a restart and a trunk line reset do to each part of the state (Section 7). -/

namespace Sys2Proof.Machine

/-! ## The pending trunk setting (R142, R149) -/

/-- The end of a pending setting changes the trunk settings, the trunk line and the pending setting, and nothing else. -/
theorem State.settingEnds_same (s : State) :
    s.settingEnds.pool = s.pool ∧ s.settingEnds.map = s.map ∧ s.settingEnds.branches = s.branches ∧
    s.settingEnds.agent = { s.agent with pendingSetting := s.settingEnds.agent.pendingSetting } ∧
    s.settingEnds.pending = s.pending ∧
    s.settingEnds.trunk = { s.trunk with
      rxSettings := s.settingEnds.trunk.rxSettings, txSettings := s.settingEnds.trunk.txSettings
      line := s.settingEnds.trunk.line } := by
  unfold State.settingEnds State.receiveAtRest State.settingTakesEffect TrunkPort.takeUpReceive
  cases hp : s.agent.pendingSetting with
  | none => simp [hp]; cases h : s.agent; simp_all
  | some p =>
    cases p with | mk ls ph =>
    cases ph <;> cases hl : s.trunk.line <;> cases ha : s.trunk.assembler <;>
      simp [TrunkPort.atRest, State.onTrunk, hl, ha, hp] <;> (cases h : s.agent; cases h2 : s.trunk; simp_all)

/-- With the trunk in BREAK_IN and its assembler IDLE no setting is left pending, and without one nothing changes. -/
theorem State.settingEnds_breakIn (u : State) (h : u.trunk.line = .breakIn) (ha : u.trunk.assembler = none) :
    u.settingEnds.trunk.line = .breakIn ∧ u.settingEnds.agent.pendingSetting = none ∧
    (u.agent.pendingSetting = none → u.settingEnds = u) := by
  simp [State.settingEnds, State.receiveAtRest, State.settingTakesEffect, TrunkPort.takeUpReceive, State.onTrunk,
    TrunkPort.atRest, h, ha]
  cases hp : u.agent.pendingSetting with
  | none => simp [hp, h]
  | some p => rcases p with ⟨ls, ph⟩; cases ph <;> simp [h, ha, hp]

/-- With the trunk in BREAK_IN and its assembler IDLE a pending setting ends on both halves, in the phase of being taken up on
the receive half alone. -/
theorem State.settingEnds_settings (u : State) (h : u.trunk.line = .breakIn) (ha : u.trunk.assembler = none) :
    (u.agent.pendingSetting = none →
      u.settingEnds.trunk.rxSettings = u.trunk.rxSettings ∧ u.settingEnds.trunk.txSettings = u.trunk.txSettings) ∧
    (∀ p, u.agent.pendingSetting = some p → u.settingEnds.trunk.rxSettings = p.settings ∧
      u.settingEnds.trunk.txSettings = if p.phase = .awaiting then p.settings else u.trunk.txSettings) := by
  simp [State.settingEnds, State.receiveAtRest, State.settingTakesEffect, TrunkPort.takeUpReceive, State.onTrunk,
    TrunkPort.atRest, h, ha]
  cases hp : u.agent.pendingSetting with
  | none => simp [hp]
  | some p => rcases p with ⟨ls, ph⟩; cases ph <;> simp [h, ha, hp]

/-! ## Lists of releases touch the pool alone -/

theorem State.dropItem_same (s : State) (i : UpItem) : (s.dropItem i).branches = s.branches ∧ (s.dropItem i).trunk = s.trunk ∧
    (s.dropItem i).agent = s.agent ∧ (s.dropItem i).map = s.map ∧ (s.dropItem i).pending = s.pending := by
  cases i <;> simp [State.dropItem]

theorem State.dropItems_same (l : List UpItem) : ∀ s : State,
    (l.foldl State.dropItem s).branches = s.branches ∧ (l.foldl State.dropItem s).trunk = s.trunk ∧
    (l.foldl State.dropItem s).agent = s.agent ∧ (l.foldl State.dropItem s).map = s.map ∧
    (l.foldl State.dropItem s).pending = s.pending := by
  induction l with
  | nil => intro s; simp
  | cons a l ih => intro s; simp only [List.foldl_cons]; have := ih (s.dropItem a); have h2 := s.dropItem_same a; simp_all

theorem State.releaseRefs_same (l : List BufferId) : ∀ s : State,
    (l.foldl (fun s n => s.releaseRef n) s).branches = s.branches ∧
    (l.foldl (fun s n => s.releaseRef n) s).trunk = s.trunk ∧ (l.foldl (fun s n => s.releaseRef n) s).agent = s.agent ∧
    (l.foldl (fun s n => s.releaseRef n) s).map = s.map ∧ (l.foldl (fun s n => s.releaseRef n) s).pending = s.pending := by
  induction l with
  | nil => intro s; simp
  | cons a l ih => intro s; simp only [List.foldl_cons]; have := ih (s.releaseRef a); simp_all

theorem State.frees_same (l : List BufferId) : ∀ s : State,
    (l.foldl (fun s n => s.free n) s).branches = s.branches ∧ (l.foldl (fun s n => s.free n) s).trunk = s.trunk ∧
    (l.foldl (fun s n => s.free n) s).agent = s.agent ∧ (l.foldl (fun s n => s.free n) s).map = s.map ∧
    (l.foldl (fun s n => s.free n) s).pending = s.pending := by
  induction l with
  | nil => intro s; simp
  | cons a l ih => intro s; simp only [List.foldl_cons]; have := ih (s.free a); simp_all

/-! ## The parts of a trunk line reset (R148, R128, R149) -/

/-- The trunk side of a trunk line reset: what is left of the trunk, and the rest of the part but the pool as it was. -/
theorem State.resetTrunkSide_same (s : State) :
    s.resetTrunkSide.branches = s.branches ∧ s.resetTrunkSide.agent = s.agent ∧ s.resetTrunkSide.map = s.map ∧
    s.resetTrunkSide.pending = s.pending ∧
    s.resetTrunkSide.trunk = { s.trunk with
      assembler := none, upstream := [], refusals := [], transmitter := s.trunk.transmitter.stop
      counters := (if s.trunk.assembler = none then s.trunk else s.trunk.count .damaged).counters } := by
  have hb : (s.breakFrame .trunk).branches = s.branches ∧ (s.breakFrame .trunk).agent = s.agent ∧
      (s.breakFrame .trunk).map = s.map ∧ (s.breakFrame .trunk).pending = s.pending ∧
      (s.breakFrame .trunk).trunk = { s.trunk with
        assembler := none, counters := (if s.trunk.assembler = none then s.trunk else s.trunk.count .damaged).counters } := by
    cases ha : s.trunk.assembler with
    | none => simp [State.breakFrame, State.assembler, ha]; cases h : s.trunk; simp_all
    | some a =>
      simp [State.breakFrame, State.assembler, ha, State.abandonFrame, State.setAssembler, State.countPort]
      simp [PortCounter.ofTrunk, TrunkPort.count]
  obtain ⟨b1, b2, b3, b4, b5⟩ := hb
  obtain ⟨d1, d2, d3, d4, d5⟩ := State.dropItems_same
    ((s.breakFrame .trunk).trunk.transmitter.items ++ (s.breakFrame .trunk).trunk.upstream) (s.breakFrame .trunk)
  unfold State.resetTrunkSide
  simp_all [State.onTrunk]

/-- A silent close empties the slot and the last-closed record of its branch. -/
theorem State.silentClose_same (b : Branch) (s : State) :
    (s.silentClose b).trunk = s.trunk ∧ (s.silentClose b).agent = s.agent ∧ (s.silentClose b).map = s.map ∧
    (s.silentClose b).pending = s.pending ∧ (s.silentClose b).branch b = { s.branch b with slot := none, lastClosed := none } ∧
    ∀ c, c ≠ b → (s.silentClose b).branch c = s.branch c := by
  cases hx : (s.branch b).slot with
  | none => simp [State.silentClose, hx]; intro c hc; simp [State.onBranch_of_ne _ _ hc]
  | some x =>
    cases hp : x.phase.holdsReservation <;> simp [State.silentClose, hx, hp] <;> intro c hc <;> simp [State.onBranch_of_ne _ _ hc]

/-- What is left of a branch at a trunk line reset. -/
def BranchPort.silentReset (p : BranchPort) : BranchPort :=
  { p.orderEmission with queue := [], datagram := none, assembler := none, slot := none, lastClosed := none }

/-- Of a branch, an ordered emission changes the line, what is being sent and the receiver. -/
theorem BranchPort.silentReset_eq (p : BranchPort) : p.silentReset =
    { p with
      queue := [], datagram := none, assembler := none, slot := none, lastClosed := none, line := p.orderEmission.line
      sending := p.orderEmission.sending, receiver := p.orderEmission.receiver } := by
  unfold BranchPort.silentReset BranchPort.orderEmission
  cases hl : p.line <;> simp [BranchPort.emit]

theorem State.resetBranchSilently_same (b : Branch) (s : State) :
    (s.resetBranchSilently b).trunk = s.trunk ∧ (s.resetBranchSilently b).agent = s.agent ∧
    (s.resetBranchSilently b).map = s.map ∧ (s.resetBranchSilently b).pending = s.pending ∧
    (s.resetBranchSilently b).branch b = (s.branch b).silentReset ∧
    ∀ c, c ≠ b → (s.resetBranchSilently b).branch c = s.branch c := by
  let v := (s.releaseRef? (s.branch b).datagram).silentClose b
  obtain ⟨c1, c2, c3, c4, c5, c6⟩ := State.silentClose_same b (s.releaseRef? (s.branch b).datagram)
  obtain ⟨d1, d2, d3, d4, d5⟩ := State.releaseRefs_same (v.branch b).queue v
  have hv : ∀ c, ((v.branch b).queue.foldl (fun s n => s.releaseRef n) v).branch c = v.branch c := by
    intro c; unfold State.branch; unfold State.branch at d1; rw [d1]
  have he : s.resetBranchSilently b = ((v.branch b).queue.foldl (fun s n => s.releaseRef n) v).onBranch b fun p =>
      { p.orderEmission with queue := [], datagram := none, assembler := none } := rfl
  have hb : v.branch b = { s.branch b with slot := none, lastClosed := none } := by simpa using c5
  rw [he]
  refine ⟨?_, ?_, ?_, ?_, ?_, ?_⟩
  · simp [d2, v, c1]
  · simp [d3, v, c2]
  · simp [d4, v, c3]
  · simp [d5, v, c4]
  · rw [State.onBranch_same, hv, hb]
    generalize s.branch b = p
    unfold BranchPort.silentReset BranchPort.orderEmission
    cases hl : p.line <;> simp [BranchPort.emit, BranchPort.ct, hl]
  · intro c hc
    rw [State.onBranch_of_ne _ _ hc, hv]
    simp only [v]
    rw [c6 c hc]
    simp

/-- All four branches at a trunk line reset. -/
theorem State.resetBranches_same (s : State) : let t := Branch.all.foldl State.resetBranchSilently s
    t.trunk = s.trunk ∧ t.agent = s.agent ∧ t.map = s.map ∧ t.pending = s.pending ∧
    ∀ b, t.branch b = (s.branch b).silentReset := by
  simp only [Branch.all, List.foldl_cons, List.foldl_nil]
  obtain ⟨a1, a2, a3, a4, a5, a6⟩ := State.resetBranchSilently_same .b1 s
  obtain ⟨b1, b2, b3, b4, b5, b6⟩ := State.resetBranchSilently_same .b2 (s.resetBranchSilently .b1)
  obtain ⟨c1, c2, c3, c4, c5, c6⟩ :=
    State.resetBranchSilently_same .b3 ((s.resetBranchSilently .b1).resetBranchSilently .b2)
  obtain ⟨d1, d2, d3, d4, d5, d6⟩ := State.resetBranchSilently_same .b4
    (((s.resetBranchSilently .b1).resetBranchSilently .b2).resetBranchSilently .b3)
  refine ⟨by rw [d1, c1, b1, a1], by rw [d2, c2, b2, a2], by rw [d3, c3, b3, a3], by rw [d4, c4, b4, a4], ?_⟩
  intro b
  cases b
  · rw [d6 _ (by decide), c6 _ (by decide), b6 _ (by decide), a5]
  · rw [d6 _ (by decide), c6 _ (by decide), b5, a6 _ (by decide)]
  · rw [d6 _ (by decide), c5, b6 _ (by decide), a6 _ (by decide)]
  · rw [d5, c6 _ (by decide), b6 _ (by decide), a6 _ (by decide)]

theorem State.voidAgent_same (s : State) : s.voidAgent.trunk = s.trunk ∧ s.voidAgent.branches = s.branches ∧
    s.voidAgent.map = s.map ∧ s.voidAgent.pending = s.pending ∧
    s.voidAgent.agent = { s.agent with
      queue := s.agent.queue.take 1, responseVoid := s.agent.responseVoid || !s.agent.queue.isEmpty } := by
  obtain ⟨d1, d2, d3, d4, d5⟩ := State.frees_same (s.agent.queue.drop 1) s
  unfold State.voidAgent
  simp_all

theorem TrunkTransmitter.stop_items (t : TrunkTransmitter) : t.stop.items = [] := by cases t <;> rfl

/-- A trunk line reset up to the release of the reservations, before a pending restart and the count of BREAKS. -/
def State.discardTraffic (s : State) : State :=
  let w := (Branch.all.foldl State.resetBranchSilently s.resetTrunkSide).voidAgent
  w.setPool { w.pool with reserved := 0, waiting := [] }

/-- What a trunk line reset leaves of each part, before a pending restart and the count of BREAKS. -/
theorem State.discardTraffic_same (s : State) :
    s.discardTraffic.trunk = { s.trunk with
      assembler := none, upstream := [], refusals := [], transmitter := s.trunk.transmitter.stop
      counters := (if s.trunk.assembler = none then s.trunk else s.trunk.count .damaged).counters } ∧
    s.discardTraffic.agent = { s.agent with
      queue := s.agent.queue.take 1, responseVoid := s.agent.responseVoid || !s.agent.queue.isEmpty } ∧
    s.discardTraffic.map = s.map ∧ s.discardTraffic.pending = s.pending ∧
    (∀ b, s.discardTraffic.branch b = (s.branch b).silentReset) ∧
    s.discardTraffic.pool.reserved = 0 ∧ s.discardTraffic.pool.waiting = [] := by
  obtain ⟨a1, a2, a3, a4, a5⟩ := State.resetTrunkSide_same s
  obtain ⟨b1, b2, b3, b4, b5⟩ := State.resetBranches_same s.resetTrunkSide
  obtain ⟨c1, c2, c3, c4, c5⟩ := State.voidAgent_same (Branch.all.foldl State.resetBranchSilently s.resetTrunkSide)
  refine ⟨?_, ?_, ?_, ?_, ?_, rfl, rfl⟩
  · simp [State.discardTraffic, c1, b1, a5]
  · simp only [State.discardTraffic, State.setPool_agent]; rw [c5, b2, a2]
  · simp [State.discardTraffic, c3, b3, a3]
  · simp [State.discardTraffic, c4, b4, a4]
  · intro b
    have h1 : (Branch.all.foldl State.resetBranchSilently s.resetTrunkSide).voidAgent.branch b =
        (Branch.all.foldl State.resetBranchSilently s.resetTrunkSide).branch b := by unfold State.branch; rw [c2]
    have h2 : s.resetTrunkSide.branch b = s.branch b := by unfold State.branch; rw [a1]
    simp only [State.discardTraffic, State.setPool_branch]
    rw [h1, b5, h2]

/-- What is left of a branch is what R128 says of it. -/
theorem BranchPort.silentReset_spec (p : BranchPort) : p.ResetSilently p.silentReset := by
  unfold BranchPort.ResetSilently BranchPort.silentReset BranchPort.orderEmission
  cases hl : p.line <;> simp [BranchPort.emit, BranchPort.ct, LineSettings.ct, Receiver.fresh, hl]
  rfl

/-- A stop of the trunk transmitter is what R144 says of it. -/
theorem TrunkTransmitter.stop_spec (t : TrunkTransmitter) : TransmitterStopped t t.stop := by
  cases t <;> simp [TransmitterStopped, TrunkTransmitter.stop]
  rfl

/-- A pending restart at a trunk line reset changes the counters, the pool and its own flag; with none nothing changes. -/
theorem State.restartAtReset_same (d : State) : let r := d.restartAtReset
    r.map = d.map ∧ r.agent = { d.agent with restartPending := false } ∧ r.trunk = { d.trunk with counters := r.trunk.counters } ∧
    (∀ b, r.branch b = { d.branch b with counters := (r.branch b).counters }) ∧ (d.agent.restartPending = false → r = d) ∧
    (d.agent.restartPending = true → r.trunk.counters = CounterBank.zero 13 ∧ (∀ b, (r.branch b).counters = CounterBank.zero 16) ∧
      r.pool = d.pool.restarted d.agent.queue.head?) ∧
    (d.pool.reserved = 0 → r.pool.reserved = 0) ∧ (d.pool.waiting = [] → r.pool.waiting = []) := by
  unfold State.restartAtReset
  cases h : d.agent.restartPending
  · simp
    cases h2 : d.agent; simp_all
  · simp [State.onTrunk]
    refine ⟨?_, ?_, ?_, ?_⟩
    · intro b; cases b <;> rfl
    · intro b; cases b <;> rfl
    · unfold Pool.restarted; cases d.agent.queue.head? <;> intro <;> rfl
    · unfold Pool.restarted; cases d.agent.queue.head? <;> intro <;> rfl

/-- A trunk line reset is the discard of all traffic, a pending restart, the count of BREAKS, and the line in BREAK_IN. -/
theorem State.takeTrunkLineReset_eq (s : State) : s.takeTrunkLineReset =
    ((s.discardTraffic.restartAtReset.countTrunk .breaks).onTrunk fun t =>
      { t with line := .breakIn, receiver := t.receiver.breakTaken }).settingEnds := rfl

end Sys2Proof.Machine
end

