-- ==== Sys2Proof/Laws/Slots.lean ====
section
/-! SUPPORT. What the operations of the slot unit and the assemblers leave alone (Sections 1 and 3). -/

namespace Sys2Proof.Machine

/-! ## Failed attempts (R56, R57) -/

/-- A failed attempt changes the slot, the last-closed record and the counters of its branch. -/
theorem State.attemptFailed_same (b : Branch) (x : Slot) (f : Failure) (s : State) :
    (s.attemptFailed b x f).branch b = { s.branch b with
      slot := ((s.attemptFailed b x f).branch b).slot
      lastClosed := ((s.attemptFailed b x f).branch b).lastClosed
      counters := ((s.attemptFailed b x f).branch b).counters } := by
  unfold State.attemptFailed
  dsimp only
  split
  · split <;> simp
  · simp [State.closeSlot_same]

theorem State.attemptFailed_of_ne {b c : Branch} (x : Slot) (f : Failure) (s : State) (h : c ≠ b) :
    (s.attemptFailed b x f).branch c = s.branch c := by
  unfold State.attemptFailed
  dsimp only
  split
  · split <;> simp [State.setSlot_of_ne _ _ h]
  · simp [State.closeSlot_of_ne _ _ _ h]

theorem State.attemptFailed_map (b : Branch) (x : Slot) (f : Failure) (s : State) : (s.attemptFailed b x f).map = s.map := by
  unfold State.attemptFailed; dsimp only; split <;> [split; skip] <;> simp

theorem State.attemptFailed_agent (b : Branch) (x : Slot) (f : Failure) (s : State) :
    (s.attemptFailed b x f).agent = s.agent := by
  unfold State.attemptFailed; dsimp only; split <;> [split; skip] <;> simp

theorem State.attemptFailed_rstLow (b : Branch) (x : Slot) (f : Failure) (s : State) :
    (s.attemptFailed b x f).rstLow = s.rstLow := by
  unfold State.attemptFailed; dsimp only; split <;> [split; skip] <;> simp

theorem State.attemptFailed_pending (b : Branch) (x : Slot) (f : Failure) (s : State) :
    (s.attemptFailed b x f).pending = s.pending := by
  unfold State.attemptFailed; dsimp only; split <;> [split; skip] <;> simp

theorem State.attemptFailed_choices (b : Branch) (x : Slot) (f : Failure) (s : State) :
    (s.attemptFailed b x f).choices = s.choices := by
  unfold State.attemptFailed; dsimp only; split <;> [split; skip] <;> simp

/-- Of the trunk, a failed attempt changes the upstream queue and the transmitter only. -/
theorem State.attemptFailed_trunk (b : Branch) (x : Slot) (f : Failure) (s : State) :
    (s.attemptFailed b x f).trunk = { s.trunk with
      upstream := (s.attemptFailed b x f).trunk.upstream, transmitter := (s.attemptFailed b x f).trunk.transmitter } := by
  unfold State.attemptFailed
  dsimp only
  split
  · split <;> simp
  · unfold State.closeSlot
    dsimp only
    split <;> (simp; rw [State.appendUpstream_eq]; simp)

/-- The slot unit told of an abandonment leaves the branch's line, queue, assembler and settings. -/
theorem State.replyAbandoned_same (b : Branch) (s : State) :
    (s.replyAbandoned b).branch b = { s.branch b with
      slot := ((s.replyAbandoned b).branch b).slot
      lastClosed := ((s.replyAbandoned b).branch b).lastClosed
      counters := ((s.replyAbandoned b).branch b).counters } := by
  unfold State.replyAbandoned
  split
  · rfl
  · split
    · rw [State.attemptFailed_same]; simp [BranchPort.count]
    · rfl
    · rfl
    · rfl

theorem State.replyAbandoned_of_ne {b c : Branch} (s : State) (h : c ≠ b) : (s.replyAbandoned b).branch c = s.branch c := by
  unfold State.replyAbandoned
  split
  · rfl
  · split <;> simp [State.attemptFailed_of_ne _ _ _ h, State.countBranch_of_ne _ _ h]

@[simp] theorem State.replyAbandoned_map (b : Branch) (s : State) : (s.replyAbandoned b).map = s.map := by
  unfold State.replyAbandoned; split <;> [skip; split] <;> simp [State.attemptFailed_map]

@[simp] theorem State.replyAbandoned_agent (b : Branch) (s : State) : (s.replyAbandoned b).agent = s.agent := by
  unfold State.replyAbandoned; split <;> [skip; split] <;> simp [State.attemptFailed_agent]

@[simp] theorem State.replyAbandoned_rstLow (b : Branch) (s : State) : (s.replyAbandoned b).rstLow = s.rstLow := by
  unfold State.replyAbandoned; split <;> [skip; split] <;> simp [State.attemptFailed_rstLow]

@[simp] theorem State.replyAbandoned_pending (b : Branch) (s : State) : (s.replyAbandoned b).pending = s.pending := by
  unfold State.replyAbandoned; split <;> [skip; split] <;> simp [State.attemptFailed_pending]

@[simp] theorem State.replyAbandoned_choices (b : Branch) (s : State) : (s.replyAbandoned b).choices = s.choices := by
  unfold State.replyAbandoned; split <;> [skip; split] <;> simp [State.attemptFailed_choices]

theorem State.replyAbandoned_trunk (b : Branch) (s : State) :
    (s.replyAbandoned b).trunk = { s.trunk with
      upstream := (s.replyAbandoned b).trunk.upstream, transmitter := (s.replyAbandoned b).trunk.transmitter } := by
  unfold State.replyAbandoned
  split
  · rfl
  · split
    · rw [State.attemptFailed_trunk]; simp
    · rfl
    · rfl
    · rfl

/-! ## Abandonment (R14) -/

@[simp] theorem State.countPort_rstLow (p : Port) (c : PortCounter) (s : State) : (s.countPort p c).rstLow = s.rstLow := by
  cases p <;> rfl

@[simp] theorem State.setAssembler_rstLow (p : Port) (x : Option Assembly) (s : State) :
    (s.setAssembler p x).rstLow = s.rstLow := by cases p <;> rfl

/-- After an abandonment the assembler is IDLE. -/
theorem State.abandon_assembler (p : Port) (a : Assembly) (s : State) : (s.abandon p a).assembler p = none := by
  cases p with
  | trunk => rfl
  | branch b =>
    have h : ((s.abandonFrame (.branch b) a).branch b).assembler = none := by
      simp [State.abandonFrame, State.setAssembler]
    cases hs : a.store with
    | none => simpa [State.abandon, State.tellOwner, hs, State.assembler] using h
    | some n =>
      simp only [State.abandon, State.tellOwner, hs, State.assembler]
      rw [State.replyAbandoned_same]
      exact h

/-- An abandonment leaves the line of its port. -/
theorem State.abandon_line (b : Branch) (a : Assembly) (s : State) :
    ((s.abandon (.branch b) a).branch b).line = (s.branch b).line := by
  have h : ((s.abandonFrame (.branch b) a).branch b).line = (s.branch b).line := by
    simp [State.abandonFrame, State.setAssembler, State.countPort, BranchPort.count]
  cases hs : a.store with
  | none => simpa [State.abandon, State.tellOwner, hs] using h
  | some n =>
    simp only [State.abandon, State.tellOwner, hs]
    rw [State.replyAbandoned_same]
    exact h

theorem State.abandon_trunk_line (a : Assembly) (s : State) : (s.abandon .trunk a).trunk.line = s.trunk.line := by
  simp [State.abandon, State.abandonFrame, State.tellOwner, State.setAssembler, State.countPort, TrunkPort.count]

theorem State.abandon_delivers (p : Port) (a : Assembly) (s : State) : (s.abandon p a).delivers p = s.delivers p := by
  cases p with
  | trunk => simp [State.delivers, State.abandon_trunk_line]
  | branch b => simp [State.delivers, State.abandon_line]

theorem State.abandon_rstLow (p : Port) (a : Assembly) (s : State) : (s.abandon p a).rstLow = s.rstLow := by
  cases p with
  | trunk => simp [State.abandon, State.abandonFrame, State.tellOwner]
  | branch b => cases hs : a.store <;> simp [State.abandon, State.abandonFrame, State.tellOwner, hs]

end Sys2Proof.Machine
end

