-- ==== Sys2Proof/WellFormed.lean ====
section
/-! DEFINITION. Which commands are well formed. The operand types of Instr already hold every range the manual gives
(a port is 0 to 4, a branch 1 to 4, a character 0..255, the straps three and two bits), so no ill-formed term of Instr
can be written and no constructor carries a further check. -/

namespace Sys2Proof

/-- Whether a command's operands are in their ranges: true of every command, by the types of the operands. -/
def Instr.wellFormed : Instr → Bool
  | .powerOnReset _ _ => true
  | .rstLow => true
  | .addressCharacter _ _ _ _ => true
  | .dataCharacter _ _ _ _ => true
  | .gapTimerExpiry _ => true
  | .grant => true
  | .sendStart _ => true
  | .endOfTransmission _ => true
  | .replyTimerExpiry _ => true
  | .datagramStart _ => true
  | .datagramEnd _ => true
  | .stoppedCharacterEnd _ => true
  | .breakHeard _ => true
  | .breakEnd _ => true
  | .settlingEnd _ => true
  | .jam _ => true
  | .breakEmissionEnd _ => true
  | .trunkLineReset => true
  | .spacingEnd => true
  | .transmissionEnd => true
  | .identify => true
  | .readStatus => true
  | .readCounters => true
  | .readEntry => true
  | .writeEntry => true
  | .clearEntry => true
  | .loadWorking => true
  | .commit => true
  | .setAdmission => true
  | .setLine => true
  | .trunkSetLine => true
  | .setPolicy => true
  | .resetBranch => true
  | .setAddress => true
  | .restart => true
  | .echo => true
  | .unknownCommand => true
  | .startBitLeadingEdge _ => true
  | .falseStart _ => true

end Sys2Proof
end

