-- ==== Sys2Proof/Tests/Slice0.lean ====
section
/-! SUPPORT. Small tests of the model on states built here: worked values of the spec, one step of each kind of event, and
for each statement with hypotheses a state and operands that meet them. -/

namespace Sys2Proof.Tests

set_option Elab.async false

open Sys2Proof Sys2Proof.Machine

/-! ## States -/

/-- The part after power-on reset with every line at rest. -/
def quiet : State :=
  { State.reset with
    branches := State.reset.branches.map fun p => { p with line := .quiet 0 }
    trunk := { State.reset.trunk with line := .idle } }

/-- `quiet` with branch 1 changed. -/
def atB1 (f : BranchPort → BranchPort) : State := quiet.onBranch .b1 f

/-- `quiet` with the trunk changed. -/
def atTrunk (f : TrunkPort → TrunkPort) : State := quiet.onTrunk f

/-- A state with these characters in buffer 0 as a frame of this kind. -/
def holding (s : State) (k : Kind) (chars : List Byte) : State :=
  State.setBuffer 0 { chars := chars, desc := { Descriptor.unclaimed with length := chars.length, kind := k, seq := controlSeq (charAt chars 1), refs := 1 } }
    (s.setPool { s.pool with free := s.pool.free.drop 1 })

/-- A command frame with this code and these operands. -/
def commandFrame (k : Kind) (code : Byte) (ops : List Byte) : List Byte :=
  withCheck ([0xF0, controlOf k 5, byteOf (1 + ops.length), code] ++ ops)

/-- A state in which the agent executes a command that came as a frame of this kind. -/
def commandedAs (k : Kind) (code : Byte) (ops : List Byte) : State :=
  let s := holding quiet k (commandFrame k code ops)
  s.setAgent { s.agent with queue := [0] }

/-- A state in which the agent executes a REQUEST with this code and these operands. -/
def commanded (code : Byte) (ops : List Byte) : State := commandedAs .request code ops

/-- A slot in this phase with this many attempts made: L = 43h, request in buffer 1, 1 retry. -/
def slotIn (phase : SlotPhase) (attempts : Nat) : Slot :=
  { phase := phase, request := 1, trunkAddress := 0x23, localAddress := 0x43, seq := 9, retries := 1, replyLimit := 5,
    attempts := attempts, lastFailure := none }

/-- Branch 1 with this slot, and the reservation it holds. -/
def slotted (x : Slot) (f : BranchPort → BranchPort) : State :=
  let s := atB1 fun p => f { p with slot := some x }
  s.setPool { s.pool with free := s.pool.free.drop 3, reserved := if x.phase.holdsReservation then 1 else 0 }

/-- A frame in assembly. -/
def assembling (store : Option BufferId) (count : Nat) (expected : Option Nat) : Assembly :=
  { store := store, header := [], check := 0x1234, count := count, expected := expected, spoiled := false, noisy := false,
    last := 0x12, gap := some 528 }

/-- A window on branch 2: trunk 20h to 27h, local 40h to 47h. -/
def window : RouteEntry :=
  { valid := true, trunkBase := 0x20, sizeCode := 3, branch := .b2, localBase := 0x40, retries := 1, replyLimit := 5, accepts := .both }

/-- `quiet` with that window in ACTIVE and a frame to address 23h in buffer 0. -/
def addressed (k : Kind) : State :=
  holding (quiet.setMap { quiet.map with active := quiet.map.active.set 3 window }) k
    (withCheck [0x23, controlOf k 9, 1, 0xAA])

/-- Branch 1 at its next sample tick: its phase has reached N. -/
def ticking (f : BranchPort → BranchPort) : BranchPort :=
  (atB1 fun p => f { p with phase := p.settings.divisor.toNat }).branch .b1

/-- A transmission with nothing sent yet. -/
def sendingOne : Transmission := Transmission.start [0x43] { divisor := 119, format := Format.powerOn, gapLimit := 3 }

/-- The route part of a REQUEST to 23h through `window`. -/
def routed : RoutePart := { trunkAddress := 0x23, localAddress := 0x43, retries := 1, replyLimit := 5 }

/-- Branch 1 with a REQUEST at the head of its queue, waiting for a grant. -/
def queuedRequest : State :=
  let s := holding (atB1 fun p => { p with queue := [0] }) .request (withCheck [0x43, controlOf .request 9, 1, 0xAA])
  let d := s.desc 0
  (State.setBuffer 0 { chars := s.chars 0, desc := { d with route := some routed } } s).updateWaiting

/-- Branch 1 with a DATAGRAM at the head of its queue. -/
def queuedDatagram : State :=
  holding (atB1 fun p => { p with queue := [0] }) .datagram (withCheck [0x43, controlOf .datagram 9, 1, 0xAA])

/-- What a test reads of the state that a command leads to. -/
def reads {α : Type} (i : Instr) (s : State) (f : State → α) : Option α :=
  match exec i s with
  | .next t => some (f t)
  | .fault _ => none
  | .refused _ => none

/-! ## Well-formedness -/

/-- The types of the operands hold every range, so the check refuses no term: the ends of the ranges. -/
theorem test_wellFormed_ends : (Instr.wellFormed (.powerOnReset 7 3) && Instr.wellFormed (.dataCharacter .trunk 255 true true)
    && Instr.wellFormed (.jam .b4)) = true := by decide +kernel

/-- No word spells a command: the table gives no row any bits. -/
theorem test_no_word_spells_a_command : decodeTableWord 8 0x41 = none := rfl

/-! ## Worked values of the spec -/

/-- R3: the check of the nine characters "123456789" is 29B1h. -/
theorem test_check_of_123456789 : checkOf [0x31, 0x32, 0x33, 0x34, 0x35, 0x36, 0x37, 0x38, 0x39] = 0x29B1 := by decide +kernel

/-- Section 11.2: REQUEST with sequence 5 is 25h, REPLY 45h, FAULT with sequence 31 is 7Fh. -/
theorem test_control_codes : (controlOf .request 5, controlOf .reply 5, controlOf .fault 31) = (0x25, 0x45, 0x7F) := by decide +kernel

/-- R212: kind codes 4 to 7 are unknown kinds. -/
theorem test_unknown_kinds : (controlKind 0x80, controlKind 0xFF, controlSeq 0xFF) = (.unknown 0, .unknown 3, 31) := by decide +kernel

/-- R20: trunk address 23h of a window 20h is local address 43h of the window 40h. -/
theorem test_translation : window.translate 0x23 = 0x43 := by decide +kernel

/-- R154: at N = 119 a bit is 1920 cycles of REFCLK and 1 ct of 11 bits 21120. -/
theorem test_character_time : (LineSettings.trunkPowerOn 0).ctCycles = 21120 := by decide +kernel

/-- R152 and R153: an ADDRESS 13h without parity: start, 1 1 0 0 1 0 0 0, mark bit 1, stop. -/
theorem test_character_levels : characterLevels Format.powerOn 0x13 true =
    [.space, .mark, .mark, .space, .space, .mark, .space, .space, .space, .mark, .mark] := by decide +kernel

/-- R153: even parity over 13h and mark bit 1 is 0. -/
theorem test_parity_bit : parityBits .even (dataBits 0x13 ++ [true]) = [false] := by decide +kernel

/-- R30: an entry whose trunk base is no multiple of its size is MISALIGNED; one on F0h to F7h holds the coupler. -/
theorem test_validation_reasons :
    (({ quiet.map with working := quiet.map.working.set 2 { window with trunkBase := 0x21 } } : StationMap).validate 0xF0,
     ({ quiet.map with working := quiet.map.working.set 2 { window with trunkBase := 0xF0 } } : StationMap).validate 0xF0)
    = (some ⟨2, .misaligned, 0xFF⟩, some ⟨2, .reservedAddress, 0xFF⟩) := by decide +kernel

/-- R30 and R31: two valid entries of one window overlap on the trunk side, and the higher index fails. -/
theorem test_validation_overlap :
    ({ quiet.map with working := (quiet.map.working.set 1 window).set 4 window } : StationMap).validate 0xF0
    = some ⟨4, .trunkOverlap, 1⟩ := by decide +kernel

/-- R30: with a lower entry that overlaps on the branch side and another on the trunk side, the trunk overlap is reported, and
where only the branch side overlaps, the lowest such entry. -/
theorem test_validation_overlap_order :
    let far := { window with trunkBase := 0x40 }
    let near := { window with localBase := 0x60 }
    let high := { window with trunkBase := 0x40, sizeCode := 2, localBase := 0x44 }
    let low := { window with trunkBase := 0x50, sizeCode := 2 }
    (({ quiet.map with working := ((quiet.map.working.set 0 far).set 1 near).set 4 window } : StationMap).validate 0xF0,
     ({ quiet.map with working := ((quiet.map.working.set 1 high).set 2 low).set 4 window } : StationMap).validate 0xF0)
    = (some ⟨4, .trunkOverlap, 1⟩, some ⟨4, .localOverlap, 1⟩) := by decide +kernel

/-! ## Points of time -/

/-- R45, R160: a READY slot on a line QUIET for the turnaround gap is due to send, and 2 ct of space are a break. -/
theorem test_due :
    (slotted (slotIn .ready 0) fun p => { p with line := .quiet (p.turnaround * p.ct) }).due = [.sendStart .b1] ∧
    (slotted (slotIn .ready 0) fun p => { p with line := .quiet (p.turnaround * p.ct - 1) }).due = [] ∧
    (atB1 fun p => { p with receiver := { p.receiver with level := .space, space := 2 * p.ct } }).due = [.breakHeard .b1] := by
  decide +kernel

/-- R163: with the pin at space at the driver's release, that tick is a leading edge and the line HEARING. -/
theorem test_release_at_space :
    reads (.endOfTransmission .b1)
      (slotted (slotIn .sending 1) fun p =>
        { p with line := .driving .frame, sending := some sendingOne, receiver := Receiver.blanked .space })
      (fun t => ((t.branch .b1).line, (t.branch .b1).receiver.char.isSome)) = some (.hearing, true) := by decide +kernel

/-- R159: a character with a stop bit at space is not delivered at its nominal end; it is at the mark that follows. -/
theorem test_held_character :
    let f := { Format.powerOn with twoStops := true }
    let c := RxCharacter.ofLevels ((sampleLevels f 0x13 true).take (16 * 11) ++ List.replicate 16 Level.space)
    let at_ := fun (n : Nat) => ({ level := .mark, space := 0, edge := false, char := some { c with count := n } } : Receiver)
    (at_ (16 * f.bits)).delivers f = false ∧ (at_ (16 * f.bits + 1)).delivers f = true := by decide +kernel

/-- R52: a timer that runs out in the tick of the address character is frozen above 0 (log entry 16). -/
theorem test_frozen_above_zero : reads (.addressCharacter (.branch .b1) 0x43 false false) (slotted (slotIn (.waiting 0) 1) id)
    (fun t => (t.branch .b1).slot.map (·.phase)) = some (some (.receiving 3 (some 1))) := by decide +kernel

/-! ## Decoded commands have their meanings -/

/-- IDENTIFY completes: one frame goes to the master and the agent queue is empty. -/
theorem test_identify : reads .identify (commanded 0x01 []) (fun t => (t.agent.queue, t.trunkItems, (t.chars 0).take 5))
    = some ([], [.frame 0 .nothing], [0xF0, 0x45, 11, 0x01, 0x00]) := by decide +kernel

/-- A REQUEST to a mapped station joins the queue of its branch under the local address. -/
theorem test_route_to_branch : (((addressed .request).routeStored 0).branch .b2).queue = [0] ∧
    charAt (((addressed .request).routeStored 0).chars 0) 0 = 0x43 := by decide +kernel

/-- A grant opens the slot with a reservation. -/
theorem test_grant : reads .grant queuedRequest (fun t => (t.pool.reserved, (t.branch .b1).queue, slotCode (t.branch .b1).slot))
    = some (1, [], 1) := by decide +kernel

/-- At the attempt limit an expired reply timer answers with NO_REPLY, 2 attempts, from branch 1. -/
theorem test_no_reply : reads (.replyTimerExpiry .b1) (slotted (slotIn (.waiting 10) 2) id)
    (fun t => (t.chars 1).take 6) = some [0x23, 0x69, 3, 0x01, 1, 2] := by decide +kernel

/-- A character of value 13h with its mark bit 1 is read back from its samples. -/
theorem test_read_back : (RxCharacter.ofLevels (sampleLevels Format.powerOn 0x13 true)).byte = 0x13 ∧
    (RxCharacter.ofLevels (sampleLevels Format.powerOn 0x13 true)).markBit = true := by decide +kernel

/-- With no event waiting and none due, a cycle of REFCLK passes. -/
theorem test_idle_cycle : (match step State.reset with
    | .next t => t.trunk.phase
    | .fault _ => 0
    | .refused _ => 0) = 1 := by decide +kernel

/-! ## The hypotheses of the statements can be met

One theorem for each statement with hypotheses: a state and operands that meet them, for each clause at an end of its
range. -/

theorem test_hyp_StepTakesFrontCommand : ({ quiet with pending := [.grant, .rstLow] } : State).pending = .grant :: [.rstLow] := rfl

/-- A command executes with time left. -/
def idling : State := (commanded 0x01 []).setAgent { (commanded 0x01 []).agent with left := 5 }

theorem test_hyp_IdleTakesDueEventsBeforeTime :
    ((atTrunk fun t => { t with transmitter := .spacing 0 }).pending = [] ∧
      (atTrunk fun t => { t with transmitter := .spacing 0 }).rstLow = false ∧
      (atTrunk fun t => { t with transmitter := .spacing 0 }).due ≠ []) ∧
    (State.reset.pending = [] ∧ State.reset.rstLow = false ∧ State.reset.due = [] ∧ State.reset.agent.queue = []) ∧
    (idling.pending = [] ∧ idling.rstLow = false ∧ idling.due = [] ∧ idling.agent.queue = 0 :: []) ∧
    ((quiet.branch .b1).phase < (quiet.branch .b1).settings.divisor.toNat ∧
      (ticking id).settings.divisor.toNat ≤ (ticking id).phase ∧ (ticking id).line = .quiet 0 ∧ (ticking id).slot = none ∧
      (ticking id).assembler = none ∧ (ticking id).sending = none ∧
      (ticking fun p => { p with line := .breakIn 45055 }).line = .breakIn 45055 ∧
      (ticking fun p => { p with line := .breakOut 1, sending := none }).line = .breakOut 1 ∧
      ((ticking fun p => { p with line := .settling 175 }).line = .settling 175 ∧
        (ticking fun p => { p with line := .settling 175 }).sending = none) ∧
      ((ticking fun p => { p with line := .settling 5, sending := some sendingOne }).line = .settling 5 ∧
        (ticking fun p => { p with line := .settling 5, sending := some sendingOne }).sending ≠ none) ∧
      (ticking fun p => { p with line := .off }).line = .off ∧ (ticking fun p => { p with line := .off }).sending = none ∧ (ticking fun p => { p with line := .hearing }).line = .hearing ∧
      ((ticking fun p => { p with line := .driving .frame, sending := some sendingOne }).line = .driving .frame ∧
        (ticking fun p => { p with line := .driving .frame, sending := some sendingOne }).sending ≠ none) ∧
      (ticking fun p => { p with slot := some (slotIn (.waiting 1) 1) }).slot = some (slotIn (.waiting 1) 1) ∧
      (slotIn (.waiting 1) 1).phase = .waiting 1 ∧ (slotIn .sending 1).phase = .sending ∧
      (ticking fun p => { p with assembler := some (assembling none 3 none) }).assembler = some (assembling none 3 none) ∧
      (assembling none 3 none).gap = some 528) ∧
    let tick := fun (l : TrunkLine) =>
        (atTrunk fun t => { t with line := l, transmitter := .spacing 1, assembler := some (assembling none 3 none),
                                   phase := t.rxSettings.divisor.toNat }).trunk
    quiet.trunk.phase < quiet.trunk.rxSettings.divisor.toNat ∧
    (tick (.settling 175)).rxSettings.divisor.toNat ≤ (tick (.settling 175)).phase ∧
    (tick (.settling 175)).line = .settling 175 ∧ (tick .breakIn).line = .breakIn ∧ (tick .idle).transmitter = .spacing 1 ∧
    (tick .idle).assembler = some (assembling none 3 none) ∧ quiet.trunk.assembler = none ∧ quiet.trunk.transmitter = .idle ∧
    (atTrunk fun t => { t with transmitter := .stopping sendingOne }).trunk.transmitter = .stopping sendingOne ∧
    (atTrunk fun t => { t with transmitter := .sending (.frame 1 .nothing) sendingOne }).trunk.transmitter =
      .sending (.frame 1 .nothing) sendingOne := by
  decide +kernel

theorem test_hyp_RstLowHoldsThePart :
    ({ quiet with rstLow := true } : State).rstLow = true ∧ (∀ sa tr, Instr.grant ≠ .powerOnReset sa tr) ∧
    Instr.grant ≠ .rstLow ∧ ({ quiet with rstLow := true } : State).pending = [] :=
  ⟨rfl, nofun, nofun, rfl⟩

theorem test_hyp_RstLowHoldsThePart_untaken :
    let off := (atB1 fun p => { p with line := .off }).branch .b1
    let stopped := (atB1 fun p => { p with line := .settling 5, sending := some sendingOne }).branch .b1
    let hearing := (atB1 fun p => { p with line := .hearing, receiver := p.receiver.beginCharacter }).branch .b1
    let full := queuedRequest.setPool { queuedRequest.pool with free := [7], reserved := 1 }
    let broken := (atTrunk fun t => { t with line := .breakIn }).trunk
    (off.line = .off ∧ off.receiver.char = none ∧ off.sending = none ∧ off.assembler = none ∧ off.slot = none ∧ off.queue = [] ∧
      off.datagram = none) ∧
    (stopped.line = .settling 5 ∧ stopped.sending = some sendingOne) ∧ hearing.receiver.char ≠ none ∧
    (queuedRequest.desc 0).kind ≠ .datagram ∧ (full.pool.free.length ≤ full.pool.reserved ∧ full.pool.waiting ≠ []) ∧
    quiet.pool.waiting = [] ∧ (broken.line = .breakIn ∧ broken.transmitter = .idle ∧ broken.assembler = none) ∧
    quiet.agent.queue = [] ∧ (commanded 0x01 []).commandIn 0 = .identify := by decide +kernel

theorem test_hyp_SentCharacterIsReadBack :
    let ls : LineSettings := { divisor := 0, format := { parity := .even, twoStops := true, noiseStrict := false }, gapLimit := 1 }
    0 < [(0x43 : Byte)].length ∧ 12 < ls.format.bits ∧ 15 < 16 * (ls.divisor.toNat + 1) ∧ 0 < Format.powerOn.bits := by
  decide +kernel

/-- A branch whose line is DRIVING, one that emits a break and one that is OFF with a character in progress, each as R114 and
R115 have it. -/
theorem test_hyp_SentCharacterIsReadBack_driver :
    let on := fun (l : LineState) (tx : Option Transmission) => (atB1 fun p => { p with line := l, sending := tx }).branch .b1
    ((on (.driving .frame) (some sendingOne)).DrivesWhatItSends ∧ (on (.driving .frame) (some sendingOne)).driverEnabled = true) ∧
    ((on (.breakOut 5) none).DrivesWhatItSends ∧ (on (.breakOut 5) none).driverEnabled = true) ∧
    ((on .off (some sendingOne)).DrivesWhatItSends ∧ (on .off (some sendingOne)).driverEnabled = true) ∧
    ((on (.quiet 0) none).DrivesWhatItSends ∧ (on (.quiet 0) none).driverEnabled = false) :=
  ⟨⟨⟨fun _ => by decide +kernel, fun _ => .inl ⟨_, rfl⟩, by decide +kernel⟩, by decide +kernel⟩,
    ⟨⟨nofun, fun h => absurd rfl h, by decide +kernel⟩, by decide +kernel⟩,
    ⟨⟨nofun, fun _ => .inr (.inl rfl), by decide +kernel⟩, by decide +kernel⟩,
    ⟨⟨nofun, fun h => absurd rfl h, by decide +kernel⟩, by decide +kernel⟩⟩

theorem test_hyp_GeneratedFramesAreReceivedValid : ([] : List Byte).length ≤ 64 ∧ (List.replicate 64 (0 : Byte)).length ≤ 64 := by
  decide +kernel

theorem test_hyp_OrphanCharacterIsCounted :
    quiet.rstLow = false ∧ (quiet.branch .b1).line.delivers = true ∧ (quiet.branch .b1).assembler = none ∧
    quiet.trunk.line.delivers = true ∧ quiet.trunk.assembler = none := by decide +kernel

theorem test_hyp_TrunkAddressClaimsUnreservedBuffer :
    let last := quiet.setPool { quiet.pool with free := [7, 9], reserved := 1 }
    let full := quiet.setPool { quiet.pool with free := [7], reserved := 1 }
    (last.rstLow = false ∧ last.trunk.line.delivers = true ∧ last.trunk.assembler = none ∧ last.pool.free = 7 :: [9] ∧
      last.pool.reserved < last.pool.free.length) ∧
    (full.rstLow = false ∧ full.trunk.line.delivers = true ∧ full.trunk.assembler = none ∧
      full.pool.free.length ≤ full.pool.reserved) := by decide +kernel

theorem test_hyp_BranchAddressConvertsReservation :
    let s := slotted (slotIn (.waiting 0) 1) id
    let r := slotted (slotIn .ready 1) id
    let f := slotted (slotIn .ready 0) id
    (s.rstLow = false ∧ (s.branch .b1).line.delivers = true ∧ (s.branch .b1).assembler = none ∧
      (s.branch .b1).slot = some (slotIn (.waiting 0) 1) ∧ (slotIn (.waiting 0) 1).localAddress = 0x43 ∧
      (slotIn (.waiting 0) 1).phase = .waiting 0 ∧ s.pool.free.head? = some 3) ∧
    ((r.branch .b1).slot = some (slotIn .ready 1) ∧ (slotIn .ready 1).phase = .ready ∧ 1 ≤ (slotIn .ready 1).attempts ∧
      r.pool.free.head? = some 3) ∧
    ((f.branch .b1).slot = some (slotIn .ready 0) ∧ (slotIn .ready 0).phase = .ready ∧ (slotIn .ready 0).attempts = 0) ∧
    (slotIn (.waiting 0) 1).localAddress ≠ 0x42 ∧ (slotIn .sending 1).phase = .sending ∧
    (slotIn (.receiving 2 none) 1).phase = .receiving 2 none := by decide +kernel

theorem test_hyp_EarlyAddressAndGapAbandonFrame :
    let s := (atB1 fun p => { p with line := .hearing }).setAssembler (.branch .b1) (some (assembling none 3 (some 5)))
    let t := (atTrunk fun t => { t with line := .hearing }).setAssembler .trunk (some (assembling none 3 (some 5)))
    s.rstLow = false ∧ s.delivers (.branch .b1) = true ∧ s.assembler (.branch .b1) = some (assembling none 3 (some 5)) ∧
    (assembling none 3 (some 5)).gap = some 528 ∧ t.rstLow = false ∧ t.trunk.assembler = some (assembling none 3 (some 5)) := by
  decide +kernel

theorem test_hyp_DataCharacterExtendsFrame :
    let meets := fun (a : Assembly) (v : Byte) =>
      let s := quiet.setAssembler .trunk (some a)
      s.rstLow = false ∧ s.delivers .trunk = true ∧ s.assembler .trunk = some a ∧ (a.expected = none ↔ a.count ≤ 2) ∧
      1 ≤ a.count ∧ (a.count = 2 → v.toNat ≤ 64) ∧ a.expected ≠ some (a.count + 1)
    meets (assembling none 1 none) 0xFF ∧ meets (assembling (some 0) 2 none) 64 ∧ meets (assembling (some 0) 3 (some 5)) 0 ∧
    meets (assembling (some 0) 67 (some 69)) 0 := by decide +kernel

theorem test_hyp_DataCharacterEndsFrame :
    let meets := fun (a : Assembly) =>
      let s := quiet.setAssembler .trunk (some a)
      s.rstLow = false ∧ s.delivers .trunk = true ∧ s.assembler .trunk = some a
    (meets (assembling none 2 none) ∧ (assembling none 2 none).expected = none ∧ (assembling none 2 none).count = 2 ∧
      64 < (65 : Byte).toNat) ∧
    (meets (assembling none 4 (some 5)) ∧ 4 ≤ (assembling none 4 (some 5)).count ∧
      (assembling none 4 (some 5)).expected = some ((assembling none 4 (some 5)).count + 1) ∧
      (assembling none 4 (some 5)).check = wordOf (assembling none 4 (some 5)).last 0x34 ∧
      (assembling none 4 (some 5)).check ≠ wordOf (assembling none 4 (some 5)).last 0x35 ∧
      (assembling none 4 (some 5)).spoiled = false) ∧
    (assembling none 5 (some 5)).store = none ∧ (assembling (some 0) 5 (some 5)).store = some 0 := by decide +kernel

theorem test_hyp_AbandonmentEndsFrame :
    let s := slotted (slotIn (.receiving 2 none) 1) id
    (assembling none 3 none).store = none ∧ (assembling (some 2) 3 none).store = some 2 ∧
    (s.branch .b1).slot = some (slotIn (.receiving 2 none) 1) ∧ (slotIn (.receiving 2 none) 1).phase = .receiving 2 none ∧
    (slotIn (.receiving 2 none) 1).attempts < (slotIn (.receiving 2 none) 1).retries.val + 1 ∧
    (slotIn (.receiving 2 none) 2).retries.val + 1 ≤ (slotIn (.receiving 2 none) 2).attempts := by decide +kernel

theorem test_hyp_StartBitAndFalseStart :
    let s := atB1 fun p => { p with line := .hearing, receiver := p.receiver.beginCharacter }
    (quiet.rstLow = false ∧ quiet.delivers (.branch .b1) = true ∧ (quiet.receiver (.branch .b1)).char = none) ∧
    (s.rstLow = false ∧ s.isHearing (.branch .b1) = true ∧ (s.receiver (.branch .b1)).char ≠ none ∧
      s.assembler (.branch .b1) = none ∧
      (s.setAssembler (.branch .b1) (some (assembling none 1 none))).assembler (.branch .b1) = some (assembling none 1 none)) := by
  decide +kernel

theorem test_hyp_RouterClassifiesByAddressAndKind :
    let frame := fun (a : Byte) (k : Kind) => holding quiet k (withCheck [a, controlOf k 9, 0])
    let busy := (frame 0xF0 .request).setAgent { quiet.agent with queue := [1, 2] }
    charAt ((frame 0x00 .request).chars 0) 0 = 0x00 ∧
    (charAt ((frame 0xFF .request).chars 0) 0 = 0xFF ∧ ((frame 0xFF .request).desc 0).kind ≠ .datagram) ∧
    (charAt ((frame 0x23 .reply).chars 0) 0 ≠ 0x00 ∧ charAt ((frame 0x23 .reply).chars 0) 0 ≠ 0xFF ∧
      ((frame 0x23 .reply).desc 0).kind ≠ .datagram ∧ ((frame 0x23 .reply).desc 0).kind ≠ .request) ∧
    (charAt ((frame 0xF0 .request).chars 0) 0 = (frame 0xF0 .request).agent.coupler ∧
      (frame 0xF0 .request).agent.coupler ≠ 0x00 ∧ (frame 0xF0 .request).agent.coupler ≠ 0xFF ∧
      ((frame 0xF0 .request).desc 0).kind = .request ∧ (frame 0xF0 .request).agent.queue.length < 2) ∧
    (busy.agent.queue.length = 2 ∧ (busy.desc 0).kind = .request ∧ ((frame 0xF0 .datagram).desc 0).kind = .datagram) := by
  decide +kernel

theorem test_hyp_RouterDistributesBroadcast :
    let s := holding quiet .datagram (withCheck [0xFF, controlOf .datagram 0, 0])
    let parked : State := { s with branches := s.branches.map (fun p => { p with admission := Admission.parked }) }
    charAt (s.chars 0) 0 = 0xFF ∧ (s.desc 0).kind = .datagram ∧ (s.branch .b1).takesBroadcast = true ∧
    charAt (parked.chars 0) 0 = 0xFF ∧ (parked.desc 0).kind = .datagram ∧ parked.broadcastTakers = [] := by decide +kernel

theorem test_hyp_RouterDecidesStationFrames_lookup : (addressed .request).MapSound ∧
    ((addressed .request).map.active.get 3).valid = true ∧ ((addressed .request).map.active.get 3).trunkBase.toNat ≤ (0x27 : Byte).toNat ∧
    (0x27 : Byte).toNat < ((addressed .request).map.active.get 3).trunkBase.toNat
      + 2 ^ ((addressed .request).map.active.get 3).sizeCode.val :=
  ⟨by refine ⟨?_, ?_, ?_, ?_⟩ <;> decide +kernel, by decide +kernel⟩

theorem test_hyp_RouterDecidesStationFrames :
    let s := addressed .request
    let barred := { window with accepts := .datagramOnly }
    let s2 := s.setMap { s.map with active := s.map.active.set 3 barred }
    let s3 := s.onBranch .b2 fun p => { p with admission := .parked }
    let s4 := s.onBranch .b2 fun p => { p with queue := [1], queueLimit := 1 }
    (charAt (s.chars 0) 0 ≠ 0x00 ∧ charAt (s.chars 0) 0 ≠ 0xFF ∧ charAt (s.chars 0) 0 ≠ s.agent.coupler ∧
      (s.desc 0).kind = .request) ∧
    (s.setMap quiet.map).map.lookup 0x23 = none ∧
    (s2.map.lookup 0x23 = some barred ∧ barred.admits .request = false) ∧
    (s3.map.lookup 0x23 = some window ∧ window.admits .request = true ∧ (s3.branch window.branch).admission ≠ .opened) ∧
    (s4.map.lookup 0x23 = some window ∧ (s4.branch window.branch).admission = .opened ∧
      (s4.branch window.branch).queueLimit ≤ (s4.branch window.branch).queue.length) ∧
    (s.map.lookup 0x23 = some window ∧ (s.branch window.branch).admission = .opened ∧
      (s.branch window.branch).queue.length < (s.branch window.branch).queueLimit) := by decide +kernel

theorem test_hyp_UnstoredRequestMakesRefusalRecord :
    let r : RefusalRecord := { trunkAddress := 0x23, seq := 1 }
    (0x23 : Byte) ≠ 0x00 ∧ (0x23 : Byte) ≠ 0xFF ∧ (atTrunk fun t => { t with refusals := [r, r, r] }).trunk.refusals.length < 4 ∧
    4 ≤ (atTrunk fun t => { t with refusals := [r, r, r, r] }).trunk.refusals.length ∧ Kind.reply ≠ Kind.request := by
  decide +kernel

theorem test_hyp_AppendUpstreamKeepsOrder :
    (atTrunk fun t => { t with transmitter := .spacing 1 }).trunk.transmitter ≠ .idle ∧ quiet.trunk.transmitter = .idle ∧
    quiet.trunk.upstream = [] ∧
    (atTrunk fun t => { t with transmitter := .sending (.frame 1 .nothing) sendingOne }).trunk.transmitter =
      .sending (.frame 1 .nothing) sendingOne := by decide +kernel

/-- The events that clear counters only under a condition are taken where that condition does not hold. -/
theorem test_hyp_CountersFallOnlyByClearing :
    let plain := atTrunk fun t => { t with transmitter := .sending (.frame 1 .nothing) sendingOne }
    let again := (commandedAs .datagram 0x0E []).setAgent
      { (commandedAs .datagram 0x0E []).agent with restartPending := true }
    (reads .grant queuedRequest fun _ => ()) = some () ∧ (∀ sa tr, Instr.grant ≠ .powerOnReset sa tr) ∧
    ((reads .transmissionEnd plain fun _ => ()) = some () ∧ ∀ n tx, plain.trunk.transmitter ≠ .sending (.frame n .restart) tx) ∧
    ((reads .trunkLineReset quiet fun _ => ()) = some () ∧ quiet.agent.restartPending = false) ∧
    ((reads .restart (commanded 0x0E []) fun _ => ()) = some () ∧ (commanded 0x0E []).answers 0 = true) ∧
    ((reads .restart again fun _ => ()) = some () ∧ again.agent.restartPending = true) ∧
    ((reads .readCounters (commanded 0x03 [4, 0]) fun _ => ()) = some () ∧
      commandOperands ((commanded 0x03 [4, 0]).chars 0) = [4, 0]) :=
  ⟨by decide +kernel, nofun, ⟨by decide +kernel, nofun⟩, by decide +kernel, by decide +kernel, by decide +kernel, by decide +kernel⟩

theorem test_hyp_GrantOpensSlotOfHighestLevel :
    queuedRequest.WaitingSettled ∧ queuedRequest.pool.waiting ≠ [] ∧ queuedRequest.rstLow = false ∧
    queuedRequest.pool.reserved < queuedRequest.pool.free.length ∧ queuedRequest.grantee = some .b1 ∧
    (queuedRequest.branch .b1).queue = 0 :: [] ∧ (queuedRequest.desc 0).route = some routed := by
  refine ⟨⟨?_, by decide +kernel⟩, by decide +kernel⟩
  intro b
  cases b <;> decide +kernel

theorem test_hyp_SendStartDrivesRequest :
    let s := slotted (slotIn .ready 0) id
    s.rstLow = false ∧ (s.branch .b1).slot = some (slotIn .ready 0) ∧ (slotIn .ready 0).phase = .ready ∧
    (s.branch .b1).line = .quiet 0 := by decide +kernel

theorem test_hyp_EndOfTransmissionStartsWait :
    let meets := fun (l : Level) =>
      let s := slotted (slotIn .sending 1) fun p =>
        { p with line := .driving .frame, sending := some sendingOne, receiver := Receiver.blanked l }
      s.rstLow = false ∧ (s.branch .b1).slot = some (slotIn .sending 1) ∧ (slotIn .sending 1).phase = .sending ∧
      (s.branch .b1).line = .driving .frame ∧ (s.branch .b1).sending = some sendingOne ∧ (s.branch .b1).receiver.level = l
    meets .mark ∧ meets .space := by decide +kernel

theorem test_hyp_ReplyTimerExpiryRetriesOrCloses :
    let s := slotted (slotIn (.waiting 0) 1) id
    s.rstLow = false ∧ (s.branch .b1).slot = some (slotIn (.waiting 0) 1) ∧ (slotIn (.waiting 0) 1).phase = .waiting 0 ∧
    (slotIn (.waiting 0) 1).attempts < (slotIn (.waiting 0) 1).retries.val + 1 ∧
    (slotIn (.waiting 0) 2).retries.val + 1 ≤ (slotIn (.waiting 0) 2).attempts := by decide +kernel

theorem test_hyp_SlotClosesWithFault :
    (slotIn .ready 1).phase = .ready ∧ (slotIn .sending 1).phase = .sending ∧ (slotIn (.waiting 0) 1).phase = .waiting 0 ∧
    (slotIn (.receiving 2 none) 1).phase.holdsReservation = false := by decide +kernel

theorem test_hyp_BranchFrameIsJudged :
    let s := holding (slotted (slotIn (.receiving 0 (some 7)) 1) id) .reply (withCheck [0x43, controlOf .reply 9, 0])
    let late : BranchPort := { quiet.branch .b1 with lastClosed := some { localAddress := 0x43, seq := 9 } }
    ((s.branch .b1).slot = some (slotIn (.receiving 0 (some 7)) 1) ∧ (s.desc 0).kind = .reply ∧
      (s.desc 0).seq = (slotIn (.receiving 0 (some 7)) 1).seq ∧ (8 : Sequence) ≠ (slotIn (.receiving 0 (some 7)) 1).seq ∧
      ¬ (Kind.request = .reply ∨ Kind.request = .fault)) ∧
    (late.lastClosed = some { localAddress := 0x43, seq := 9 } ∧ (quiet.branch .b1).lastClosed = none) := by decide +kernel

theorem test_hyp_DatagramStartAndEnd :
    let onLevel := fun (l : Level) => atB1 fun p =>
      { p with datagram := some 1, line := .driving .frame, sending := some sendingOne, receiver := Receiver.blanked l }
    let s := onLevel .mark
    (queuedDatagram.rstLow = false ∧ (queuedDatagram.branch .b1).queue = 0 :: [] ∧ (queuedDatagram.desc 0).kind = .datagram ∧
      (queuedDatagram.branch .b1).slot = none ∧ (queuedDatagram.branch .b1).line = .quiet 0) ∧
    (s.rstLow = false ∧ (s.branch .b1).datagram = some 1 ∧ (s.branch .b1).line = .driving .frame ∧
      (s.branch .b1).sending = some sendingOne ∧ (s.branch .b1).receiver.level = .mark ∧
      ((onLevel .space).branch .b1).receiver.level = .space ∧ (s.desc 1).refs ≤ 1 ∧
      1 < ((State.setBuffer 1 { chars := [], desc := { Descriptor.unclaimed with refs := 2 } } s).desc 1).refs) := by
  decide +kernel

theorem test_hyp_BreakClosesSentSlot :
    let meets := fun (x : Slot) =>
      let s := slotted x id
      s.rstLow = false ∧ (s.branch .b1).line.hearsBreak = true ∧ (s.branch .b1).sending = none ∧ (s.branch .b1).slot = some x
    (meets (slotIn .ready 1) ∧ 1 ≤ (slotIn .ready 1).attempts) ∧ meets (slotIn (.waiting 0) 1) ∧
    meets (slotIn (.receiving 2 none) 1) ∧ (meets (slotIn .ready 0) ∧ (slotIn .ready 0).attempts = 0) ∧
    meets (slotIn .sending 1) ∧ (quiet.branch .b1).slot = none := by decide +kernel

theorem test_hyp_FlushAnswersInQueueOrder :
    let s := slotted (slotIn (.receiving 2 none) 1) fun p => { p with queue := [5, 6], datagram := some 7 }
    let d : Descriptor := { Descriptor.unclaimed with kind := .request, refs := 1, route := some routed }
    let t := State.setBuffer 5 { chars := [], desc := d } s
    ((t.branch .b1).queue = [5, 6] ∧ (t.branch .b1).queue.Nodup) ∧
    ((t.branch .b1).slot = some (slotIn (.receiving 2 none) 1) ∧ (slotIn (.receiving 2 none) 1).request ∉ (t.branch .b1).queue ∧
      (slotIn (.receiving 2 none) 1).phase.replyBuffer = some 2 ∧ (2 : BufferId) ≠ (slotIn (.receiving 2 none) 1).request ∧
      (2 : BufferId) ∉ (t.branch .b1).queue) ∧
    ((t.branch .b1).datagram = some 7 ∧ (7 : BufferId) ∉ (t.branch .b1).queue ∧
      (slotIn (.receiving 2 none) 1).request ≠ 7) ∧
    (t.desc 5).kind = .request ∧ (t.desc 5).route = some routed ∧ (t.desc 6).kind ≠ .request ∧
    (t.branch .b1).datagram ≠ some 2 ∧ (t.desc 6).refs ≤ 1 ∧
    1 < ((State.setBuffer 6 { chars := [], desc := { Descriptor.unclaimed with refs := 2 } } t).desc 6).refs ∧
    (slotIn (.waiting 0) 1).phase = .waiting 0 := by decide +kernel

theorem test_hyp_JamClosesBranch :
    (atB1 fun p => { p with line := .breakIn 0 }).rstLow = false ∧
    ((atB1 fun p => { p with line := .breakIn 0 }).branch .b1).line = .breakIn 0 := by decide +kernel

theorem test_hyp_LineEventsMoveLineState :
    let onB1 := fun (l : LineState) (tx : Option Transmission) => (atB1 fun p => { p with line := l, sending := tx }).branch .b1
    ((onB1 (.breakIn 5) none).line = .breakIn 5 ∧ (onB1 (.settling 0) none).line = .settling 0 ∧
      (onB1 (.settling 0) none).sending = none ∧ (onB1 (.breakOut 0) none).line = .breakOut 0) ∧
    ((atTrunk fun t => { t with line := .breakIn }).trunk.line = .breakIn ∧
      (atTrunk fun t => { t with line := .settling 175 }).trunk.line = .settling 175 ∧
      (atTrunk fun t => { t with transmitter := .stopping sendingOne }).trunk.transmitter = .stopping sendingOne) ∧
    ((onB1 (.driving .emission) (some sendingOne)).sending = some sendingOne ∧
      (onB1 (.driving .emission) (some sendingOne)).line = .driving .emission ∧
      (onB1 (.driving .settle) (some sendingOne)).line = .driving .settle ∧ (onB1 .off (some sendingOne)).line = .off ∧
      (onB1 (.settling 3) (some sendingOne)).line = .settling 3) ∧ quiet.rstLow = false := by decide +kernel

theorem test_hyp_TrunkTransmitterSendsInOrder :
    let r : RefusalRecord := { trunkAddress := 0x23, seq := 1 }
    let spaced := fun (l : List UpItem) => (atTrunk fun t => { t with transmitter := .spacing 0, upstream := l }).trunk
    let busy := fun (i : UpItem) => (atTrunk fun t => { t with transmitter := .sending i sendingOne }).trunk
    quiet.rstLow = false ∧ (spaced []).transmitter = .spacing 0 ∧ (spaced []).upstream = [] ∧
    (spaced [.refusal r]).upstream = .refusal r :: [] ∧
    (busy (.frame 1 .nothing)).transmitter = .sending (.frame 1 .nothing) sendingOne ∧
    (busy (.frame 1 .setting)).transmitter = .sending (.frame 1 .setting) sendingOne ∧
    (busy (.frame 1 .restart)).transmitter = .sending (.frame 1 .restart) sendingOne ∧
    (busy (.refusal r)).transmitter = .sending (.refusal r) sendingOne := by decide +kernel

theorem test_hyp_PendingSettingTakesEffect :
    let ls := LineSettings.trunkPowerOn 3
    let pend := fun (s : State) (f : SettingPhase) => s.setAgent { s.agent with pendingSetting := some { settings := ls, phase := f } }
    let hearing := atTrunk fun t => { t with line := .hearing }
    ((pend quiet .awaiting).agent.pendingSetting = some { settings := ls, phase := .awaiting } ∧
      ((pend quiet .awaiting).trunk.line ≠ .hearing ∧ (pend quiet .awaiting).trunk.assembler = none)) ∧
    ((pend hearing .awaiting).trunk.line = .hearing ∧
      (pend hearing .awaiting).agent.pendingSetting = some { settings := ls, phase := .awaiting }) ∧
    ((pend quiet .takingUp).agent.pendingSetting = some { settings := ls, phase := .takingUp } ∧
      (pend quiet .takingUp).trunk.line ≠ .hearing) ∧
    ((pend hearing .takingUp).trunk.line = .hearing ∧
      (pend hearing .takingUp).agent.pendingSetting = some { settings := ls, phase := .takingUp }) ∧
    quiet.agent.pendingSetting = none := by decide +kernel

theorem test_hyp_TrunkLineReset :
    let pending := quiet.setAgent { quiet.agent with restartPending := true }
    quiet.rstLow = false ∧ quiet.trunk.line.hearsBreak = true ∧ quiet.agent.restartPending = false ∧
    quiet.agent.pendingSetting = none ∧ pending.rstLow = false ∧ pending.trunk.line.hearsBreak = true ∧
    pending.agent.restartPending = true := by decide +kernel

/-- A part with traffic everywhere: buffer 0 in trunk assembly, 1 and 2 bound for the master, 3 and 4 in the slot of branch
1, 5 in its queue, 6 a broadcast DATAGRAM on branches 1 and 2, 7 executing and 8 waiting in the agent. -/
def trafficked : State :=
  let refs := fun (k : Nat) => ({ chars := [], desc := { Descriptor.unclaimed with refs := k } } : Buffer)
  let s := quiet.setPool { quiet.pool with
    buffers := Vector.ofFn fun i => refs (if i.val = 6 then 2 else if i.val ≤ 8 then 1 else 0), free := quiet.pool.free.drop 9 }
  let s := s.setTrunk { s.trunk with
    assembler := some (assembling (some 0) 3 none), transmitter := .sending (.frame 1 .nothing) sendingOne
    upstream := [.frame 2 .nothing] }
  let s := s.onBranch .b1 fun p => { p with slot := some { slotIn (.receiving 4 none) 1 with request := 3 }, queue := [5, 6] }
  let s := s.onBranch .b2 fun p => { p with datagram := some 6 }
  s.setAgent { s.agent with queue := [7, 8] }

theorem test_hyp_TrunkLineResetDiscardsTraffic :
    let released : List BufferId := [0, 1, 2, 4, 3, 5, 6, 6, 8]
    trafficked.rstLow = false ∧ trafficked.trunk.line.hearsBreak = true ∧ trafficked.agent.restartPending = false ∧
    (∀ n ∈ released, released.count n = (trafficked.desc n).refs) ∧
    (∀ n ∈ [0, 1, 2, 4, 3, 8], (trafficked.desc n).refs = 1) ∧
    (reads .trunkLineReset trafficked fun t => t.pool.free.drop 23) = some [0, 1, 2, 4, 3, 5, 6, 8] ∧
    let pend := fun (f : SettingPhase) =>
      quiet.setAgent { quiet.agent with pendingSetting := some { settings := LineSettings.trunkPowerOn 3, phase := f } }
    (pend .awaiting).agent.pendingSetting ≠ none ∧ (pend .takingUp).trunk.line.hearsBreak = true := by decide +kernel

theorem test_hyp_RestartKeepsConfiguration :
    let r : TrunkTransmitter → TrunkPort := fun x => (atTrunk fun t => { t with transmitter := x }).trunk
    let l : LineState → BranchPort := fun x => (atB1 fun p => { p with line := x }).branch .b1
    quiet.trunk.transmitter = .idle ∧ (r (.spacing 1)).transmitter = .spacing 1 ∧
    (r (.sending (.frame 1 .nothing) sendingOne)).transmitter = .sending (.frame 1 .nothing) sendingOne ∧
    (r (.stopping sendingOne)).transmitter = .stopping sendingOne ∧ quiet.agent.pendingSetting = none ∧
    (l .off).line = .off ∧ (l (.driving .frame)).line = .driving .frame ∧ (quiet.branch .b1).line ≠ .off := by decide +kernel

/-! ## Commands execute on the operands that their statements name -/

/-- A command with these operands executes and is to be answered. -/
def executing (c : Command) (code : Byte) (ops : List Byte) : Bool :=
  let s := commanded code ops
  !s.rstLow && s.agent.queue == [0] && s.commandIn 0 == c && commandOperands (s.chars 0) == ops && s.answers 0

/-- The meaning of `executing` in the words of the statements. -/
theorem executing_meets {c : Command} {code : Byte} {ops : List Byte} (h : executing c code ops = true) :
    (commanded code ops).Executing c 0 [] ∧ commandOperands ((commanded code ops).chars 0) = ops ∧
    (commanded code ops).Answers 0 := by
  simp only [executing, Bool.and_eq_true, Bool.not_eq_true', beq_iff_eq, State.answers] at h
  obtain ⟨⟨⟨⟨h1, h2⟩, h3⟩, h4⟩, h5, h6⟩ := h
  exact ⟨⟨h1, h2, h3⟩, h4, h5, h6⟩

theorem test_hyp_FailedTestsHaveNoEffect :
    executing .unknown 0x10 [] = true ∧ executing .unknown 0xFF [1] = true ∧ executing .identify 0x01 [0] = true ∧
    Command.identify.takes 1 = false ∧ executing .readCounters 0x03 [5, 0] = true ∧ Command.readCounters.takes 2 = true ∧
    Command.readCounters.refuses [5, 0] = true ∧ Command.readCounters.refuses [4, 1] = false := by decide +kernel

theorem test_hyp_FailedTestsHaveNoEffect_reading :
    let empty := withCheck [0xF0, 0x20, 0]
    let one := commandFrame .request 0x0C [1]
    (charAt empty 2).toNat = 0 ∧ (charAt one 2).toNat ≠ 0 ∧ 3 + (charAt one 2).toNat ≤ one.length ∧ 0 < (charAt one 2).toNat - 1 := by
  decide +kernel

theorem test_hyp_IdentifyAndEchoReport :
    executing .identify 0x01 [] = true ∧ executing .echo 0x0F [] = true ∧ executing .echo 0x0F [1, 2] = true := by decide +kernel

theorem test_hyp_ReadStatusReportsAndClears : executing .readStatus 0x02 [] = true := by decide +kernel

theorem test_hyp_ReadCountersReportsAndClears :
    executing .readCounters 0x03 [byteOf (portNumber .trunk), 0] = true ∧
    executing .readCounters 0x03 [byteOf (portNumber (.branch .b4)), 1] = true := by decide +kernel

theorem test_hyp_ReadEntryReportsTable :
    executing .readEntry 0x04 [0, 0, 1] = true ∧ executing .readEntry 0x04 [1, 12, 4] = true ∧ 12 + 4 ≤ 16 := by decide +kernel

theorem test_hyp_WorkingIsEdited :
    executing .writeEntry 0x05 [byteOf (15 : Fin 16), 0x80, byteOf (6 : Fin 7), byteOf Branch.b4.number, 0x40, byteOf (3 : Fin 4), 1,
      Admit.both.code] = true ∧
    executing .clearEntry 0x06 [byteOf (15 : Fin 16)] = true ∧ executing .loadWorking 0x07 [] = true := by decide +kernel

theorem test_hyp_CommitSwapsOrRejects :
    executing .commit 0x08 [] = true ∧ (commanded 0x08 []).map.validate (commanded 0x08 []).agent.coupler = none ∧
    ({ quiet.map with working := quiet.map.working.set 2 { window with trunkBase := 0x21 } } : StationMap).validate 0xF0 ≠ none := by
  decide +kernel

theorem test_hyp_SetAdmissionChangesBranch :
    executing .setAdmission 0x09 [byteOf Branch.b1.number, Admission.opened.code] = true ∧
    executing .setAdmission 0x09 [byteOf Branch.b4.number, Admission.parked.code] = true ∧
    executing .setAdmission 0x09 [byteOf Branch.b1.number, Admission.closed.code] = true ∧
    ((commanded 0x09 [1, 0]).branch .b1).admission = .opened ∧ ((commanded 0x09 [4, 1]).branch .b4).admission ≠ .parked ∧
    (((commanded 0x09 [1, 0]).onBranch .b1 fun p => { p with admission := .closed }).branch .b1).admission = .closed ∧
    (commanded 0x09 [1, 0]).answers 0 = true ∧ (commandedAs .datagram 0x09 [1, 0]).answers 0 = false := by
  decide +kernel

theorem test_hyp_SetLineNeedsClosedBranch :
    executing .setLine 0x0A [byteOf Branch.b1.number, 15, 255, 0x0E, 15, 1] = true ∧ (15 : Byte).toNat ≤ 15 ∧
    (readFormat 0x0E).isSome = true ∧ (readFormat 0x00).isSome = true ∧ readFormat 0x03 = none ∧ readFormat 0x10 = none ∧
    ((commanded 0x0A [1, 0, 4, 0, 1, 15]).branch .b1).admission ≠ .closed ∧
    (((commanded 0x0A [1, 0, 4, 0, 1, 15]).onBranch .b1 fun p => { p with admission := .closed }).branch .b1).admission = .closed := by
  decide +kernel

theorem test_hyp_SetPolicySetsPolicy :
    executing .setPolicy 0x0B [byteOf Branch.b1.number, 1, 7, 0] = true ∧
    executing .setPolicy 0x0B [byteOf Branch.b1.number, 16, 1, 1] = true ∧
    ((commanded 0x0B [1, 1, 7, 0]).branch .b1).queue.head? ≠ some 0 := by decide +kernel

/-- A branch that waits behind another keeps its place through a SET_POLICY that raises its grant level. -/
theorem test_setPolicy_keeps_place :
    let s := (commanded 0x0B [1, 16, 7, 1]).setPool { (commanded 0x0B [1, 16, 7, 1]).pool with
      buffers := (commanded 0x0B [1, 16, 7, 1]).pool.buffers.set 1 { chars := [], desc := { Descriptor.unclaimed with kind := .request } }
      waiting := [.b2, .b1] }
    let s := (s.onBranch .b1 fun p => { p with queue := [1] }).onBranch .b2 fun p => { p with queue := [1] }
    s.commandIn 0 = .setPolicy ∧ (reads .setPolicy s fun t => (t.pool.waiting, (t.branch .b1).grantLevel)) = some ([.b2, .b1], 7) := by
  decide +kernel

theorem test_hyp_ResetBranchEmitsAndFlushes :
    executing .resetBranch 0x0C [byteOf Branch.b1.number] = true ∧ ((commanded 0x0C [1]).branch .b1).admission ≠ .closed ∧
    (((commanded 0x0C [1]).onBranch .b1 fun p => { p with admission := .closed, line := .off }).branch .b1).line = .off ∧
    ((atB1 fun p => { p with line := .driving .frame }).branch .b1).line = .driving .frame ∧
    (quiet.branch .b1).line ≠ .off := by decide +kernel

theorem test_hyp_TrunkSetLineBecomesPending :
    executing .trunkSetLine 0x0A [0x00, 0, 4, 0, 1, 0] = true ∧ (commanded 0x0A [0x00, 0, 4, 0, 1, 0]).agent.pendingSetting = none ∧
    ((commanded 0x0A [0x00, 0, 4, 0, 1, 0]).setAgent { (commanded 0x0A [0x00, 0, 4, 0, 1, 0]).agent with
      pendingSetting := some { settings := LineSettings.trunkPowerOn 3, phase := .takingUp } }).agent.pendingSetting ≠ none ∧
    readFormat 0 = some Format.powerOn ∧ (commandedAs .datagram 0x0A [0x00, 0, 4, 0, 1, 0]).answers 0 = false := by decide +kernel

theorem test_hyp_SetAddressChangesCoupler :
    executing .setAddress 0x0D [0x00] = true ∧ executing .setAddress 0x0D [0xFE] = true ∧
    (commanded 0x0D [0xFE]).map.routes 0xFE = false ∧ (addressed .request).map.routes 0x27 = true := by decide +kernel

theorem test_hyp_RestartIsDeferredToItsResponse :
    executing .restart 0x0E [] = true ∧ (commanded 0x0E []).agent.restartPending = false ∧
    (commandedAs .datagram 0x0E []).answers 0 = false ∧
    ((commanded 0x0E []).setAgent { (commanded 0x0E []).agent with restartPending := true }).agent.restartPending = true := by
  decide +kernel

/-! ## The invariants hold in a state with traffic -/

theorem test_hyp_ReservationsAreAlwaysBacked : (slotted (slotIn (.waiting 0) 1) id).ReservationsBacked := by
  unfold State.ReservationsBacked; decide +kernel

theorem test_hyp_WaitingSetStaysSettled : queuedRequest.WaitingSettled := test_hyp_GrantOpensSlotOfHighestLevel.1

theorem test_hyp_ClosedBranchesStayEmptyAndOff :
    let s := (atB1 fun p => { p with admission := .closed, line := .off, sending := some sendingOne }).onBranch .b2 fun p =>
      { p with line := .driving .frame, sending := some sendingOne }
    s.ClosedIsOff ∧ s.DrivesWhatItSends := by
  refine ⟨fun b => ?_, fun b => ?_⟩
  · cases b <;> unfold BranchPort.ClosedIsOff <;> decide +kernel
  · cases b
    · exact ⟨nofun, fun _ => .inr (.inl rfl), by decide +kernel⟩
    · exact ⟨fun _ => by decide +kernel, fun _ => .inl ⟨_, rfl⟩, by decide +kernel⟩
    · exact ⟨nofun, fun h => absurd rfl h, by decide +kernel⟩
    · exact ⟨nofun, fun h => absurd rfl h, by decide +kernel⟩

theorem test_hyp_SettingsAndQueuesStayInRange : quiet.InRange := by
  refine ⟨?_, ?_, ?_, ?_, ?_, ?_⟩
  · intro b
    cases b <;> unfold BranchPort.InRange inRange <;> decide +kernel
  · unfold inRange; decide +kernel
  · unfold inRange; decide +kernel
  · intro p hp
    exact absurd (show none = some p from hp) (by simp)
  · decide +kernel
  · decide +kernel

theorem test_hyp_ActiveTableStaysSound : (addressed .request).MapSound := by
  refine ⟨?_, ?_, ?_, ?_⟩ <;> decide +kernel

end Sys2Proof.Tests
end

section
/-! PROOFS. The commands that edit and commit the station map complete as R26 to R28 and R30 to R32 say. -/

namespace Sys2Proof.Machine

/-! ## Reading back the operands that the part writes (R212, R213) -/

theorem byteOf_toNat_of_lt {k : Nat} (h : k < 256) : (byteOf k).toNat = k := by
  rw [byteOf, BitVec.toNat_ofNat]
  exact Nat.mod_eq_of_lt h

@[simp] theorem readIndex_byteOf (i : Fin 16) : readIndex (byteOf i) = some i := by
  have hi : (byteOf i).toNat = i := byteOf_toNat_of_lt (by omega)
  simp [readIndex, hi]

@[simp] theorem readSizeCode_byteOf (k : Fin 7) : readSizeCode (byteOf k) = some k := by
  have hk : (byteOf k).toNat = k := byteOf_toNat_of_lt (by omega)
  simp [readSizeCode, hk]

@[simp] theorem readRetries_byteOf (r : Fin 4) : readRetries (byteOf r) = some r := by
  have hr : (byteOf r).toNat = r := byteOf_toNat_of_lt (by omega)
  simp [readRetries, hr]

@[simp] theorem readBranch_number (b : Branch) : readBranch (byteOf b.number) = some b := by
  cases b <;> rfl

@[simp] theorem readAdmit_code (a : Admit) : readAdmit a.code = some a := by
  cases a <;> rfl

theorem readReplyLimit_of_ne_zero {r : Byte} (h : r ≠ 0) : readReplyLimit r = some r := if_neg h

/-- The operands of WRITE_ENTRY, each in its range, give the valid entry that they spell (R26). -/
theorem readEntryOperands_eq (index tb lb r : Byte) (size : Fin 7) (b : Branch) (retries : Fin 4) (accepts : Admit)
    (hr : r ≠ 0) :
    readEntryOperands [index, tb, byteOf size, byteOf b.number, lb, byteOf retries, r, accepts.code] =
      some { valid := true, trunkBase := tb, sizeCode := size, branch := b, localBase := lb, retries := retries,
             replyLimit := r, accepts := accepts } := by
  simp [readEntryOperands, charAt, readReplyLimit_of_ne_zero hr]

/-! ## The completions of the commands -/

theorem writeEntryCompletion_eq (s : State) (i : Fin 16) (tb lb r : Byte) (size : Fin 7) (b : Branch) (retries : Fin 4)
    (accepts : Admit) (hr : r ≠ 0) :
    writeEntryCompletion s [byteOf i, tb, byteOf size, byteOf b.number, lb, byteOf retries, r, accepts.code] =
      Completion.done [] (State.setWorking i
        { valid := true, trunkBase := tb, sizeCode := size, branch := b, localBase := lb, retries := retries,
          replyLimit := r, accepts := accepts }) := by
  have hi : ∀ ops, readIndex (charAt (byteOf i :: ops) 0) = some i := fun _ => readIndex_byteOf i
  rw [writeEntryCompletion, hi, readEntryOperands_eq _ _ _ _ _ _ _ _ hr]

theorem clearEntryCompletion_eq (s : State) (i : Fin 16) :
    clearEntryCompletion s [byteOf i] = Completion.done [] (State.clearWorking i) := by
  have hi : readIndex (charAt [byteOf i] 0) = some i := readIndex_byteOf i
  rw [clearEntryCompletion, hi]

theorem commitCompletion_of_valid {s : State} (h : s.map.validate s.agent.coupler = none) (ops : List Byte) :
    commitCompletion s ops =
      Completion.done [hiByte (s.map.generation + 1), loByte (s.map.generation + 1)] State.swapTables := by
  rw [commitCompletion, h]

theorem commitCompletion_of_rejected {s : State} {r : Rejection} (h : s.map.validate s.agent.coupler = some r)
    (ops : List Byte) : commitCompletion s ops = Completion.only { result := .rejected, data := r.data } := by
  rw [commitCompletion, h]

/-- The tests of the code and of the operand count pass, and the command's own outcome stands (R173). -/
theorem Command.judge_of_takes {c : Command} {ops : List Byte} (hc : c ≠ .unknown) (h : c.takes ops.length = true)
    (own : Completion) : c.judge ops own = own := by
  cases c with
  | unknown => exact absurd rfl hc
  | _ => exact if_pos h

/-! ## Commands that change the station map alone -/

theorem exec_writeEntry (s : State) : exec .writeEntry s = execCommand .writeEntry writeEntryCompletion s := by rfl

theorem exec_clearEntry (s : State) : exec .clearEntry s = execCommand .clearEntry clearEntryCompletion s := by rfl

theorem exec_loadWorking (s : State) : exec .loadWorking s = execCommand .loadWorking loadWorkingCompletion s := by rfl

theorem exec_commit (s : State) : exec .commit s = execCommand .commit commitCompletion s := by rfl

/-- An executing command whose operand count is right, whose outcome carries nothing and whose effect changes no more than
the station map, concludes with that outcome. -/
theorem execCommand_concluded_of_map {s : State} {c : Command} {n : BufferId} {rest : List BufferId} {ops : List Byte}
    {own : State → List Byte → Completion} {x : Completion} {m : StationMap} {v : Verdict} (h : s.Executing c n rest)
    (hops : commandOperands (s.chars n) = ops) (hc : c ≠ .unknown) (ht : c.takes ops.length = true) (hown : own s ops = x)
    (heffect : x.effect s = s.setMap m) (hcarry : x.carry = .nothing) (hverdict : x.verdict = v) :
    ∃ t, execCommand c own s = .next t ∧ Concluded s { s with map := m } t n rest v := by
  have hexec := execCommand_of_executing h own
  rw [hops, hown, Command.judge_of_takes hc ht] at hexec
  obtain ⟨-, hqueue, -⟩ := h
  rw [← hverdict]
  exact ⟨_, hexec, State.complete_concluded heffect hcarry (State.setMap_buffer s m n) hqueue rfl⟩

/-! ## The obligations -/

/-- Settles O46: each of the three commands passes its tests and replaces WORKING alone. -/
theorem workingIsEdited : Obligations.WorkingIsEdited := by
  unfold Obligations.WorkingIsEdited
  intro s n rest
  refine ⟨?write, ?clear, ?load⟩
  case write =>
    rintro i tb k br lb rt r ad size b retries accepts h hops rfl rfl rfl hr rfl
    rw [exec_writeEntry]
    exact execCommand_concluded_of_map h hops (by decide) rfl (writeEntryCompletion_eq s i tb lb r size b retries accepts hr)
      rfl rfl rfl
  case clear =>
    intro i h hops
    rw [exec_clearEntry]
    exact execCommand_concluded_of_map h hops (by decide) rfl (clearEntryCompletion_eq s i) rfl rfl rfl
  case load =>
    intro h hops
    rw [exec_loadWorking]
    exact execCommand_concluded_of_map h hops (by decide) rfl rfl rfl rfl rfl

/-- Settles O47: COMMIT goes by the outcome of its validation, and a rejection keeps the map as it is. -/
theorem commitSwapsOrRejects : Obligations.CommitSwapsOrRejects := by
  unfold Obligations.CommitSwapsOrRejects
  intro s n rest h hops
  rw [exec_commit]
  refine ⟨fun hvalid => ?swap, fun r hfail => ?reject⟩
  case swap =>
    exact execCommand_concluded_of_map h hops (by decide) rfl (commitCompletion_of_valid hvalid []) rfl rfl rfl
  case reject =>
    exact execCommand_concluded_of_map h hops (by decide) rfl (commitCompletion_of_rejected hfail []) rfl rfl rfl

end Sys2Proof.Machine
end

section
/-! PROOFS. The judging of a branch frame (R53 to R55, R59, R60), and a break heard on a branch (R117, R61). -/

namespace Sys2Proof.Machine

/-! ## Changes of one branch, one after another -/

/-- A count and a new slot are one change of the branch. -/
theorem State.countBranch_setSlot (b : Branch) (c : BranchCounter) (x : Option Slot) (s : State) :
    (s.countBranch b c).setSlot b x = s.setBranch b { (s.branch b).count c with slot := x } := by
  simp [State.setSlot, State.countBranch, State.onBranch]

/-- A count and the close of a slot are one change of the branch. -/
theorem State.countBranch_onBranch_closed (b : Branch) (c : BranchCounter) (l : LastClosed) (s : State) :
    ((s.countBranch b c).onBranch b fun p => { p with slot := none, lastClosed := some l }) =
      s.setBranch b { s.branch b with
        slot := none, lastClosed := some l, counters := ((s.branch b).count c).counters } := by
  simp [State.countBranch, State.onBranch, BranchPort.count]

/-- Writing a slot commutes with work on the pool. -/
theorem State.free_reserve_setSlot (b : Branch) (x : Option Slot) (n : BufferId) (s : State) :
    (s.free n).reserve.setSlot b x = ((s.setSlot b x).free n).reserve := rfl

/-- A change of a branch commutes with the freeing of a buffer that may be absent. -/
theorem State.free?_onBranch (b : Branch) (f : BranchPort → BranchPort) (n : Option BufferId) (s : State) :
    (s.free? n).onBranch b f = (s.onBranch b f).free? n := by
  cases n <;> rfl

/-! ## The reply (R53 to R55, R59) -/

/-- Acceptance leaves the branch as it is but for the slot, the last-closed record and REPLIES (R53). -/
theorem State.acceptReply_eq (b : Branch) (x : Slot) (n : BufferId) (s : State) :
    s.acceptReply b x n =
      (((s.rewrite n x.trunkAddress).appendUpstream (.frame n .nothing)).free x.request).setBranch b { s.branch b with
        slot := none
        lastClosed := some { localAddress := x.localAddress, seq := x.seq }
        counters := ((s.branch b).count .replies).counters } := by
  simp [State.acceptReply, State.countBranch_onBranch_closed]

/-- The phase that a rejected frame sends its slot back to (R54, R59). -/
def SlotPhase.back (frozen : Option Nat) : SlotPhase := frozen.elim .ready .waiting

/-- A rejection counts, frees the reply buffer, and sends the slot back with a reservation retaken (R54, R55, R59). -/
theorem State.rejectReply_eq (b : Branch) (x : Slot) (n : BufferId) (frozen : Option Nat) (c : BranchCounter) (s : State) :
    s.rejectReply b x n frozen c =
      ((s.setBranch b { (s.branch b).count c with slot := some { x with phase := .back frozen } }).free n).reserve := by
  calc s.rejectReply b x n frozen c
      = ((s.countBranch b c).free n).reserve.setSlot b (some { x with phase := .back frozen }) := by
        cases frozen <;> rfl
    _ = _ := by rw [State.free_reserve_setSlot, State.countBranch_setSlot]

/-- The kinds that answer a REQUEST (R53). -/
def Kind.answers (k : Kind) : Prop := k = .reply ∨ k = .fault

section
variable {s : State} {b : Branch} {x : Slot} {m : BufferId} {frozen : Option Nat}

/-- In RECEIVING, a REPLY or FAULT is judged by its sequence (R53, R54). -/
theorem State.judgeReply_of_answers (hslot : (s.branch b).slot = some x) (hphase : x.phase = .receiving m frozen)
    (n : BufferId) (h : (s.desc n).kind.answers) :
    s.judgeReply b n =
      if (s.desc n).seq = x.seq then s.acceptReply b x n else s.rejectReply b x n frozen .stale := by
  rcases h with hkind | hkind <;> simp [State.judgeReply, hslot, hphase, hkind]

/-- In RECEIVING, any other kind is STRAY (R55). -/
theorem State.judgeReply_of_not_answers (hslot : (s.branch b).slot = some x) (hphase : x.phase = .receiving m frozen)
    (n : BufferId) (h : ¬ (s.desc n).kind.answers) : s.judgeReply b n = s.rejectReply b x n frozen .stray := by
  simp only [State.judgeReply, hslot, hphase]
  cases hkind : (s.desc n).kind with
  | reply => exact absurd (.inl hkind) h
  | fault => exact absurd (.inr hkind) h
  | datagram => rfl
  | request => rfl
  | unknown low => rfl

end

/-! ## Frames that no slot waits for (R60) -/

/-- An unstored frame is late when it is a REPLY or FAULT that matches the last-closed record. -/
theorem BranchPort.isLate_iff (p : BranchPort) (a : Byte) (k : Kind) (q : Sequence) :
    p.isLate a k q = true ↔ k.answers ∧ p.lastClosed = some { localAddress := a, seq := q } := by
  simp [BranchPort.isLate, Kind.answers]

theorem State.classify_of_isLate {s : State} {b : Branch} {a : Byte} {k : Kind} {q : Sequence}
    (h : (s.branch b).isLate a k q = true) : s.classify b a k q = s.countBranch b .late := by
  simp [State.classify, h]

theorem State.classify_of_not_isLate {s : State} {b : Branch} {a : Byte} {k : Kind} {q : Sequence}
    (h : ¬ (s.branch b).isLate a k q = true) : s.classify b a k q = s.countBranch b .stray := by
  simp [State.classify, h]

/-! ## BREAK (R117, R61) -/

theorem exec_breakHeard (b : Branch) (s : State) : exec (.breakHeard b) s = execBreakHeard b s := by rfl

/-- An event whose conditions hold is taken, and the waiting set follows from it (R97). -/
theorem takeEvent_of_possible {s : State} {possible : Bool} (hrst : s.rstLow = false) (h : possible = true)
    (effect : State → State) : takeEvent possible effect s = .next (effect s).updateWaiting := by
  simp [takeEvent, hrst, h]

theorem LineState.hearsBreak_iff (l : LineState) :
    l.hearsBreak = true ↔ (∃ q, l = .quiet q) ∨ l = .hearing ∨ ∃ c, l = .settling c := by
  cases l <;> simp [LineState.hearsBreak]

/-- BREAK is taken where a break is heard and nothing is being sent. -/
theorem exec_breakHeard_of_hearsBreak {s : State} {b : Branch} (hrst : s.rstLow = false)
    (hline : (s.branch b).line.hearsBreak = true) (hsend : (s.branch b).sending = none) :
    exec (.breakHeard b) s = .next (s.takeBreak b).updateWaiting := by
  rw [exec_breakHeard]
  exact takeEvent_of_possible hrst (by simp [BranchPort.takesBreak, hline, hsend]) _

/-- An abandonment on a branch counts DAMAGED, frees the buffer of a stored frame and ends the assembly (R14). -/
theorem State.abandonFrame_branch (b : Branch) (a : Assembly) (s : State) :
    s.abandonFrame (.branch b) a =
      (s.setBranch b { (s.branch b).count .damaged with assembler := none }).free? a.store := by
  calc s.abandonFrame (.branch b) a
      = ((s.countBranch b .damaged).free? a.store).onBranch b fun p => { p with assembler := none } := rfl
    _ = _ := by rw [State.free?_onBranch]; simp [State.countBranch, State.onBranch]

/-- The branch and the pool once BREAKS is counted and the frame in assembly is abandoned (R14, R117). -/
def State.breakCounted (b : Branch) (s : State) : State := (s.countBranch b .breaks).breakFrame (.branch b)

theorem State.takeBreak_eq (b : Branch) (s : State) :
    s.takeBreak b = ((s.breakCounted b).breakSlot b).onBranch b fun p =>
      { p with line := .breakIn 0, receiver := p.receiver.breakTaken } := rfl

theorem State.breakCounted_of_idle {s : State} {b : Branch} (h : (s.branch b).assembler = none) :
    s.breakCounted b = s.setBranch b ((s.branch b).count .breaks) := by
  have hidle : (s.countBranch b .breaks).assembler (.branch b) = none := by
    simpa [State.assembler, BranchPort.count] using h
  simp only [State.breakCounted, State.breakFrame, hidle]
  rfl

theorem State.breakCounted_of_assembling {s : State} {b : Branch} {a : Assembly} (h : (s.branch b).assembler = some a) :
    s.breakCounted b =
      (s.setBranch b { ((s.branch b).count .breaks).count .damaged with assembler := none }).free? a.store := by
  have hasm : (s.countBranch b .breaks).assembler (.branch b) = some a := by
    simpa [State.assembler, BranchPort.count] using h
  calc s.breakCounted b
      = (s.countBranch b .breaks).abandonFrame (.branch b) a := by
        simp only [State.breakCounted, State.breakFrame, hasm]
    _ = _ := by rw [State.abandonFrame_branch]; simp [State.countBranch, State.onBranch]

/-- A break leaves the slot to `breakSlot` (R61). -/
@[simp] theorem State.breakCounted_slot (b : Branch) (s : State) :
    ((s.breakCounted b).branch b).slot = (s.branch b).slot := by
  cases h : (s.branch b).assembler with
  | none => simp [State.breakCounted_of_idle h, BranchPort.count]
  | some a => simp [State.breakCounted_of_assembling h, BranchPort.count]

/-- The slot has sent its request, and a break closes it (R61). -/
def Slot.sent (x : Slot) : Prop :=
  (x.phase = .ready ∧ 1 ≤ x.attempts) ∨ (∃ left, x.phase = .waiting left) ∨ (∃ n f, x.phase = .receiving n f)

theorem State.breakSlot_of_sent {s : State} {b : Branch} {x : Slot} (hslot : (s.branch b).slot = some x) (h : x.sent) :
    s.breakSlot b = s.closeSlot b x .lineBreak := by
  rcases h with ⟨hphase, hattempts⟩ | ⟨left, hphase⟩ | ⟨n, f, hphase⟩
  · simp [State.breakSlot, hslot, hphase, hattempts]
  · simp [State.breakSlot, hslot, hphase]
  · simp [State.breakSlot, hslot, hphase]

theorem State.breakSlot_of_unsent {s : State} {b : Branch}
    (h : ∀ x, (s.branch b).slot = some x → (x.phase = .ready ∧ x.attempts = 0) ∨ x.phase = .sending) :
    s.breakSlot b = s := by
  cases hslot : (s.branch b).slot with
  | none => simp [State.breakSlot, hslot]
  | some x =>
    rcases h x hslot with ⟨hphase, hattempts⟩ | hphase
    · simp [State.breakSlot, hslot, hphase, hattempts]
    · simp [State.breakSlot, hslot, hphase]

/-! ## The obligations -/

/-- Settles O30: the judging goes by the kind and then by the sequence, and each outcome is one change of branch and pool. -/
theorem branchFrameIsJudged : Obligations.BranchFrameIsJudged := by
  unfold Obligations.BranchFrameIsJudged
  refine ⟨fun s n a => rfl, ?judged, ?classified⟩
  case judged =>
    intro s b x n frozen hslot hphase answer back rejected
    have hrejected : ∀ c, s.rejectReply b x n frozen c = rejected c := by
      intro c
      rw [State.rejectReply_eq]
      cases frozen <;> rfl
    refine ⟨fun hanswer hseq => ?accepted, fun hanswer hseq => ?stale, fun hanswer => ?stray⟩
    case accepted =>
      rw [State.judgeReply_of_answers hslot hphase n hanswer, if_pos hseq, State.acceptReply_eq]
    case stale =>
      rw [State.judgeReply_of_answers hslot hphase n hanswer, if_neg hseq, hrejected]
    case stray =>
      rw [State.judgeReply_of_not_answers hslot hphase n hanswer, hrejected]
  case classified =>
    intro s b a k q late
    have hlate : (s.branch b).isLate a k q = true ↔ late := BranchPort.isLate_iff _ a k q
    exact ⟨fun h => State.classify_of_isLate (hlate.mpr h), fun h => State.classify_of_not_isLate (mt hlate.mp h)⟩

/-- Settles O32: a break counts and abandons the frame first, and then the slot's phase says whether it closes. -/
theorem breakClosesSentSlot : Obligations.BreakClosesSentSlot := by
  unfold Obligations.BreakClosesSentSlot
  refine ⟨LineState.hearsBreak_iff, ?_⟩
  intro s b hrst hline hsend counted u after
  have hu : s.breakCounted b = u := by
    cases h : (s.branch b).assembler with
    | none => simp only [u, h]; exact State.breakCounted_of_idle h
    | some a => simp only [u, h]; exact State.breakCounted_of_assembling h
  have hexec : exec (.breakHeard b) s = .next (after (u.breakSlot b)) := by
    rw [exec_breakHeard_of_hearsBreak hrst hline hsend, State.takeBreak_eq, hu]
    rfl
  have hkept : (u.branch b).slot = (s.branch b).slot := by rw [← hu, State.breakCounted_slot]
  rw [hexec]
  refine ⟨fun x hslot hsent => ?closed, fun hunsent => ?untouched⟩
  case closed => rw [State.breakSlot_of_sent (hkept.trans hslot) hsent]
  case untouched => rw [State.breakSlot_of_unsent (hkept.symm ▸ hunsent)]

end Sys2Proof.Machine
end

section
/-! PROOFS. What the trunk router decides on a stored frame (R70 to R72, R76 to R83) and on an unstored one (R84, R85), and
the lookup in ACTIVE that it goes by (R24). -/

namespace Sys2Proof.Machine

/-! ## Writing one buffer twice -/

@[simp] theorem State.setBuffer_setBuffer (n : BufferId) (x y : Buffer) (s : State) :
    State.setBuffer n y (State.setBuffer n x s) = State.setBuffer n y s := by
  simp [State.setBuffer]

/-! ## The agent takes a command (R71, R171, R172) -/

/-- A command that finds the agent queue empty begins at once. -/
theorem State.appendCommand_of_empty {s : State} (h : s.agent.queue = []) (n : BufferId) :
    s.appendCommand n = s.setAgent { s.agent with queue := s.agent.queue ++ [n], left := s.limitOf n } := by
  simp only [State.appendCommand, h]
  rfl

/-- A command that finds another one waiting or executing leaves the time of that one alone. -/
theorem State.appendCommand_of_ne_nil {s : State} (h : s.agent.queue ≠ []) (n : BufferId) :
    s.appendCommand n = s.setAgent { s.agent with queue := s.agent.queue ++ [n] } := by
  cases hq : s.agent.queue with
  | nil => exact absurd hq h
  | cons m rest => simp only [State.appendCommand, hq]

theorem State.routeToAgent_of_room {s : State} (h : s.agent.queue.length < 2) (n : BufferId) :
    s.routeToAgent n = s.appendCommand n := if_pos h

theorem State.routeToAgent_of_full {s : State} (h : 2 ≤ s.agent.queue.length) (n : BufferId) :
    s.routeToAgent n = s.refuse n .agentBusy 0 := if_neg (Nat.not_lt.mpr h)

/-! ## Refusal of a stored frame (R76, R83) -/

/-- A refused REQUEST: REFUSED is counted, and the router fault built over it goes upstream. -/
theorem State.refuse_of_request {s : State} {n : BufferId} (h : (s.desc n).kind = .request) (r : FaultReason)
    (branch : Nat) :
    s.refuse n r branch =
      ((s.setTrunk (s.trunk.count .refused)).buildFault n (charAt (s.chars n) 0) (s.desc n).seq r branch 0).appendUpstream
        (.frame n .nothing) := if_pos h

/-- A refused DATAGRAM: DISCARDED is counted and the buffer freed. -/
theorem State.refuse_of_not_request {s : State} {n : BufferId} (h : (s.desc n).kind ≠ .request) (r : FaultReason)
    (branch : Nat) : s.refuse n r branch = (s.setTrunk (s.trunk.count .discarded)).free n := if_neg h

/-! ## The decision by address and kind (R70) -/

/-- The address and kind are those of a WRONG_KIND discard in the table of R70. -/
def Kind.wrongFor (k : Kind) (a : Byte) : Prop :=
  a = 0x00 ∨ (a = 0xFF ∧ k ≠ .datagram) ∨ (a ≠ 0x00 ∧ a ≠ 0xFF ∧ k ≠ .datagram ∧ k ≠ .request)

section
variable {s : State} {n : BufferId}

theorem State.routeStored_of_wrongKind (h : (s.desc n).kind.wrongFor (charAt (s.chars n) 0)) :
    s.routeStored n = s.wrongKind n := by
  rcases h with hzero | ⟨hall, hkind⟩ | ⟨-, -, hdatagram, hrequest⟩
  · simp only [State.routeStored, if_pos hzero]
  · have hzero : charAt (s.chars n) 0 ≠ 0x00 := by rw [hall]; decide
    simp only [State.routeStored, if_neg hzero, if_pos hall, if_neg hkind]
  · simp [State.routeStored, hdatagram, hrequest]

/-- Outside 00h and FFh a REQUEST or DATAGRAM goes by whether its address is the coupler's. -/
theorem State.routeStored_of_addressed (hzero : charAt (s.chars n) 0 ≠ 0x00) (hall : charAt (s.chars n) 0 ≠ 0xFF)
    (hkind : (s.desc n).kind = .request ∨ (s.desc n).kind = .datagram) :
    s.routeStored n =
      if charAt (s.chars n) 0 = s.agent.coupler then s.routeToAgent n else s.routeStation n (charAt (s.chars n) 0) := by
  have hrouted : (!((s.desc n).kind == .datagram || (s.desc n).kind == .request)) = false := by
    rcases hkind with h | h <;> rw [h] <;> rfl
  simp only [State.routeStored, if_neg hzero, if_neg hall, hrouted, Bool.false_eq_true, if_false]

end

/-! ## The four tests of a station frame (R76 to R80) -/

/-- A frame refused at its branch: a DATAGRAM counts QUEUE_DROPS there first (R79, R80). -/
theorem State.refuseAtBranch_eq (n : BufferId) (r : FaultReason) (b : Branch) (s : State) :
    s.refuseAtBranch n r b =
      (if (s.desc n).kind = .request then s else s.setBranch b ((s.branch b).count .queueDrops)).refuse n r b.number := rfl

section
variable {s : State} {n : BufferId} {a : Byte} {e : RouteEntry}

theorem State.routeStation_of_unrouted (h : s.map.lookup a = none) :
    s.routeStation n a = (s.setTrunk (s.trunk.count .unrouted)).refuse n .unrouted 0 := by
  simp only [State.routeStation, h]
  rfl

theorem State.routeStation_of_barred (h : s.map.lookup a = some e) (hbarred : e.admits (s.desc n).kind = false) :
    s.routeStation n a = s.refuse n .kindBarred e.branch.number := by
  simp [State.routeStation, h, hbarred]

theorem State.routeStation_of_not_opened (h : s.map.lookup a = some e) (hadmits : e.admits (s.desc n).kind = true)
    (hclosed : (s.branch e.branch).admission ≠ .opened) :
    s.routeStation n a = s.refuseAtBranch n .parked e.branch := by
  simp [State.routeStation, h, hadmits, hclosed]

theorem State.routeStation_of_full (h : s.map.lookup a = some e) (hadmits : e.admits (s.desc n).kind = true)
    (hopened : (s.branch e.branch).admission = .opened)
    (hfull : (s.branch e.branch).queueLimit ≤ (s.branch e.branch).queue.length) :
    s.routeStation n a = s.refuseAtBranch n .queueFull e.branch := by
  simp [State.routeStation, h, hadmits, hopened, hfull]

theorem State.routeStation_of_passed (h : s.map.lookup a = some e) (hadmits : e.admits (s.desc n).kind = true)
    (hopened : (s.branch e.branch).admission = .opened)
    (hroom : (s.branch e.branch).queue.length < (s.branch e.branch).queueLimit) :
    s.routeStation n a = s.appendToBranch n a e := by
  simp [State.routeStation, h, hadmits, hopened, Nat.not_le.mpr hroom]

end

/-- The buffer of a station frame once an entry has routed it: rewritten to L, with reference count 1 and, for a REQUEST,
its route part (R16, R20, R81). -/
def Buffer.routed (x : Buffer) (a : Byte) (e : RouteEntry) : Buffer :=
  { chars := rewriteAddress (e.translate a) x.chars
    desc := { x.desc with refs := 1, route := if x.desc.kind = .request then some (e.routePart a) else none } }

/-- The append writes the buffer and the queue of its branch, and nothing else (R81). -/
theorem State.appendToBranch_eq (n : BufferId) (a : Byte) (e : RouteEntry) (s : State) :
    s.appendToBranch n a e =
      (State.setBuffer n ((s.buffer n).routed a e) s).setBranch e.branch
        { s.branch e.branch with queue := (s.branch e.branch).queue ++ [n] } := by
  simp [State.appendToBranch, State.rewrite, State.onBranch, Buffer.routed]

/-! ## The lookup in ACTIVE (R24) -/

/-- Entry i of ACTIVE is valid and its trunk window holds the address. -/
def StationMap.HoldsAt (m : StationMap) (a : Byte) (i : Fin 16) : Prop :=
  (m.active.get i).valid = true ∧ (m.active.get i).holdsTrunk a = true

theorem RouteEntry.holdsTrunk_iff (e : RouteEntry) (a : Byte) :
    e.holdsTrunk a = true ↔ e.trunkBase.toNat ≤ a.toNat ∧ a.toNat < e.trunkBase.toNat + 2 ^ e.sizeCode.val :=
  decide_eq_true_iff

/-- Two trunk windows that hold one address overlap. -/
theorem RouteEntry.trunkOverlap_of_holdsTrunk {e f : RouteEntry} {a : Byte} (he : e.holdsTrunk a = true)
    (hf : f.holdsTrunk a = true) : e.trunkOverlap f = true := by
  simp only [RouteEntry.holdsTrunk, RouteEntry.trunkOverlap, decide_eq_true_eq] at *
  omega

theorem Table.mem_iff_get (t : Table) (e : RouteEntry) : e ∈ t ↔ ∃ i, t.get i = e := by
  simp [Vector.mem_iff_getElem, Fin.exists_iff, Vector.get_eq_getElem]

theorem StationMap.lookup_eq_none_iff (m : StationMap) (a : Byte) : m.lookup a = none ↔ ∀ i, ¬ m.HoldsAt a i := by
  simp [StationMap.lookup, Table.mem_iff_get, StationMap.HoldsAt]

theorem StationMap.holdsAt_of_lookup {m : StationMap} {a : Byte} {e : RouteEntry} (h : m.lookup a = some e) :
    ∃ i, m.active.get i = e ∧ m.HoldsAt a i := by
  obtain ⟨i, rfl⟩ := (Table.mem_iff_get m.active e).mp (Vector.mem_toList_iff.mp (List.mem_of_find?_eq_some h))
  exact ⟨i, rfl, by simpa [StationMap.HoldsAt] using List.find?_some h⟩

/-- In a table that satisfies R23 no two valid windows hold one trunk address. -/
theorem State.MapSound.holdsAt_unique {s : State} (h : s.MapSound) {a : Byte} {i j : Fin 16} (hi : s.map.HoldsAt a i)
    (hj : s.map.HoldsAt a j) : i = j := by
  obtain ⟨-, hpairs, -⟩ := h
  have apart : ∀ {k l : Fin 16}, s.map.HoldsAt a k → s.map.HoldsAt a l → ¬ k < l := by
    rintro k l ⟨hkvalid, hk⟩ ⟨hlvalid, hl⟩ hlt
    have hoverlap := RouteEntry.trunkOverlap_of_holdsTrunk hk hl
    rw [(hpairs k l hlt hkvalid hlvalid).1] at hoverlap
    exact Bool.false_ne_true hoverlap
  exact le_antisymm (not_lt.mp (apart hj hi)) (not_lt.mp (apart hi hj))

theorem State.MapSound.lookup_eq {s : State} (h : s.MapSound) {a : Byte} {i : Fin 16} (hi : s.map.HoldsAt a i) :
    s.map.lookup a = some (s.map.active.get i) := by
  cases hl : s.map.lookup a with
  | none => exact absurd hi ((StationMap.lookup_eq_none_iff s.map a).mp hl i)
  | some e =>
    obtain ⟨j, rfl, hj⟩ := StationMap.holdsAt_of_lookup hl
    rw [h.holdsAt_unique hi hj]

/-! ## The kinds that an entry lets through (R78) -/

theorem RouteEntry.admits_request_iff (e : RouteEntry) : e.admits .request = true ↔ e.accepts.code ≠ 2 := by
  cases h : e.accepts <;> simp [RouteEntry.admits, h, Admit.code]

theorem RouteEntry.admits_datagram_iff (e : RouteEntry) : e.admits .datagram = true ↔ e.accepts.code ≠ 1 := by
  cases h : e.accepts <;> simp [RouteEntry.admits, h, Admit.code]

theorem Admit.code_cases (x : Admit) : x.code = 1 ∨ x.code = 2 ∨ x.code = 3 := by
  cases x <;> decide

/-! ## Unstored frames (R84, R85) -/

section
variable {a : Byte} {k : Kind} {s : State}

theorem State.routeUnstored_of_request (hk : k = .request) (hzero : a ≠ 0x00) (hall : a ≠ 0xFF) (q : Sequence) :
    s.routeUnstored a k q = s.storeRefusal { trunkAddress := a, seq := q } := if_pos ⟨hk, hzero, hall⟩

theorem State.routeUnstored_of_forgotten (h : k ≠ .request ∨ a = 0x00 ∨ a = 0xFF) (q : Sequence) :
    s.routeUnstored a k q = s := by
  refine if_neg ?_
  rintro ⟨hk, hzero, hall⟩
  rcases h with h | h | h
  · exact h hk
  · exact hzero h
  · exact hall h

theorem State.storeRefusal_of_room (h : s.trunk.refusals.length < 4) (r : RefusalRecord) :
    s.storeRefusal r =
      (s.setTrunk { s.trunk with refusals := s.trunk.refusals ++ [r] }).appendUpstream (.refusal r) := if_pos h

theorem State.storeRefusal_of_full (h : 4 ≤ s.trunk.refusals.length) (r : RefusalRecord) :
    s.storeRefusal r = s.setTrunk (s.trunk.count .refusalLost) := if_neg (Nat.not_lt.mpr h)

end

/-! ## The obligations -/

/-- Settles O17: the address and the kind pick the row of R70, and the agent queue's room decides a command. -/
theorem routerClassifiesByAddressAndKind : Obligations.RouterClassifiesByAddressAndKind := by
  unfold Obligations.RouterClassifiesByAddressAndKind
  refine ⟨fun s n a q r branch attempts => rfl, fun n s h => State.routeStored_of_wrongKind h, ?command⟩
  case command =>
    intro n s hcoupler hzero hall hkind
    have hrouted : s.routeStored n = s.routeToAgent n := by
      rw [← hcoupler] at hzero hall
      rw [State.routeStored_of_addressed hzero hall hkind, if_pos hcoupler]
    rw [hrouted]
    refine ⟨fun hroom => ?queued, fun hfull hrequest => ?busy, fun hfull hdatagram => ?discarded⟩
    case queued =>
      rw [State.routeToAgent_of_room hroom]
      by_cases hempty : s.agent.queue = []
      · exact ⟨s.limitOf n, State.appendCommand_of_empty hempty n, fun h => absurd hempty h, fun _ => rfl⟩
      · exact ⟨s.agent.left, State.appendCommand_of_ne_nil hempty n, fun _ => rfl, fun h => absurd h hempty⟩
    case busy =>
      rw [State.routeToAgent_of_full hfull, State.refuse_of_request hrequest]
    case discarded =>
      rw [State.routeToAgent_of_full hfull, State.refuse_of_not_request (by simp [hdatagram])]

/-- Settles O19: each of the four tests has its own outcome, the frame that passes them joins the queue, and the entry it
goes by is the one of R24. -/
theorem routerDecidesStationFrames : Obligations.RouterDecidesStationFrames := by
  unfold Obligations.RouterDecidesStationFrames
  refine ⟨?refusals, ?append, ?lookup,
    fun e => ⟨e.admits_request_iff, e.admits_datagram_iff, Admit.code_cases e.accepts⟩⟩
  case refusals =>
    intro n s a k hzero hall hstation hkind refused atBranch
    have hrouted : s.routeStored n = s.routeStation n a := by
      rw [State.routeStored_of_addressed hzero hall hkind, if_neg hstation]
    have hrefuse : ∀ (u : State) (r : FaultReason) (branch : Nat), u.buffer n = s.buffer n →
        u.refuse n r branch = refused u r branch := by
      intro u r branch hsame
      have hchars : u.chars n = s.chars n := congrArg Buffer.chars hsame
      have hdesc : u.desc n = s.desc n := congrArg Buffer.desc hsame
      by_cases hrequest : k = .request
      · rw [State.refuse_of_request (hdesc ▸ hrequest), hchars, hdesc]
        exact (if_pos hrequest).symm
      · rw [State.refuse_of_not_request (hdesc ▸ hrequest)]
        exact (if_neg hrequest).symm
    have hatBranch : ∀ b r, s.refuseAtBranch n r b = refused (atBranch b) r b.number := by
      intro b r
      have hsame : (atBranch b).buffer n = s.buffer n := by
        simp only [atBranch]
        split <;> simp
      rw [State.refuseAtBranch_eq]
      exact hrefuse (atBranch b) r b.number hsame
    rw [hrouted]
    refine ⟨fun hnone => ?unrouted, fun e he => ⟨fun hbarred => ?barred, fun hadmits hclosed => ?parked,
      fun hadmits hopened hfull => ?full⟩⟩
    case unrouted => rw [State.routeStation_of_unrouted hnone, hrefuse _ _ _ (by simp)]
    case barred => rw [State.routeStation_of_barred he hbarred, hrefuse _ _ _ rfl]
    case parked => rw [State.routeStation_of_not_opened he hadmits hclosed, hatBranch]
    case full => rw [State.routeStation_of_full he hadmits hopened hfull, hatBranch]
  case append =>
    intro n s e a k hzero hall hstation hkind he hadmits hopened hroom l route routed
    rw [State.routeStored_of_addressed hzero hall hkind, if_neg hstation,
      State.routeStation_of_passed he hadmits hopened hroom, State.appendToBranch_eq]
    rfl
  case lookup =>
    intro s a holds
    have hholds : ∀ i, s.map.HoldsAt a i ↔ holds i := fun i => and_congr_right fun _ => RouteEntry.holdsTrunk_iff _ a
    simp only [← hholds]
    exact ⟨StationMap.lookup_eq_none_iff s.map a, fun e => StationMap.holdsAt_of_lookup, fun h i => h.lookup_eq⟩

/-- Settles O20: the header says whether a record is made, and the refusal store's room whether it is kept. -/
theorem unstoredRequestMakesRefusalRecord : Obligations.UnstoredRequestMakesRefusalRecord := by
  unfold Obligations.UnstoredRequestMakesRefusalRecord
  intro a k q s record
  refine ⟨fun hk hzero hall hroom => ?stored, fun hk hzero hall hfull => ?lost,
    fun h => State.routeUnstored_of_forgotten h q, rfl⟩
  case stored => rw [State.routeUnstored_of_request hk hzero hall, State.storeRefusal_of_room hroom]
  case lost => rw [State.routeUnstored_of_request hk hzero hall, State.storeRefusal_of_full hfull]

end Sys2Proof.Machine
end

section
/-! PROOFS. The arbiter picks the waiting branch of highest grant level, first joined (R99), and a grant opens its slot on
its head REQUEST (R98, R44). -/

namespace Sys2Proof.Machine

/-! ## The choice of the arbiter (R99) -/

/-- In joining order, every branch before this one has a lower grant level, and every branch behind it none higher (R99). -/
def State.FirstOfHighest (s : State) (joined : List Branch) (b : Branch) : Prop :=
  ∃ before after, joined = before ++ b :: after ∧ (∀ c ∈ before, (s.branch c).grantLevel < (s.branch b).grantLevel) ∧
    (∀ c ∈ after, (s.branch c).grantLevel ≤ (s.branch b).grantLevel)

theorem State.preferred_of_lt {s : State} {b c : Branch} (h : (s.branch b).grantLevel < (s.branch c).grantLevel) :
    s.preferred b c = c := if_pos h

theorem State.preferred_of_le {s : State} {b c : Branch} (h : (s.branch c).grantLevel ≤ (s.branch b).grantLevel) :
    s.preferred b c = b := if_neg (Nat.not_lt.mpr h)

theorem State.firstOfHighest_singleton (s : State) (b : Branch) : s.FirstOfHighest [b] b := ⟨[], [], rfl, nofun, nofun⟩

/-- No member has a higher grant level than the first of highest. -/
theorem State.FirstOfHighest.grantLevel_le {s : State} {joined : List Branch} {b : Branch} (h : s.FirstOfHighest joined b) :
    ∀ c ∈ joined, (s.branch c).grantLevel ≤ (s.branch b).grantLevel := by
  obtain ⟨before, after, rfl, hbefore, hafter⟩ := h
  intro c hc
  rcases List.mem_append.mp hc with hc | hc
  · exact (hbefore c hc).le
  · rcases List.mem_cons.mp hc with rfl | hc
    · exact le_rfl
    · exact hafter c hc

/-- A branch that joins behind the others is the first of highest only where its level is above all of theirs. -/
theorem State.FirstOfHighest.append_singleton {s : State} {joined : List Branch} {b : Branch}
    (h : s.FirstOfHighest joined b) (c : Branch) : s.FirstOfHighest (joined ++ [c]) (s.preferred b c) := by
  rcases Nat.lt_or_ge (s.branch b).grantLevel (s.branch c).grantLevel with hlt | hle
  · rw [State.preferred_of_lt hlt]
    exact ⟨joined, [], rfl, fun d hd => (h.grantLevel_le d hd).trans_lt hlt, nofun⟩
  · rw [State.preferred_of_le hle]
    obtain ⟨before, after, rfl, hbefore, hafter⟩ := h
    refine ⟨before, after ++ [c], by simp, hbefore, fun d hd => ?_⟩
    rcases List.mem_append.mp hd with hd | hd
    · exact hafter d hd
    · rwa [List.mem_singleton.mp hd]

theorem State.FirstOfHighest.foldl_preferred {s : State} {joined : List Branch} {b : Branch}
    (h : s.FirstOfHighest joined b) (rest : List Branch) :
    s.FirstOfHighest (joined ++ rest) (rest.foldl s.preferred b) := by
  induction rest generalizing joined b with
  | nil => simpa using h
  | cons c rest ih => simpa using ih (h.append_singleton c)

/-- In a settled waiting set every member meets the conditions of R97. -/
theorem State.WaitingSettled.filter_eligible {s : State} (h : s.WaitingSettled) :
    s.pool.waiting.filter s.eligible = s.pool.waiting :=
  List.filter_eq_self.mpr fun b hb => (h.1 b).mp hb

/-- The arbiter grants to the first of highest among the members that still meet the conditions of R97. -/
theorem State.grantee_firstOfHighest {s : State} (h : s.pool.waiting.filter s.eligible ≠ []) :
    ∃ b, s.grantee = some b ∧ s.FirstOfHighest (s.pool.waiting.filter s.eligible) b := by
  unfold State.grantee
  cases hjoined : s.pool.waiting.filter s.eligible with
  | nil => exact absurd hjoined h
  | cons b rest => exact ⟨_, rfl, (s.firstOfHighest_singleton b).foldl_preferred rest⟩

/-! ## GRANT (R98, R44) -/

theorem exec_grant (s : State) : exec .grant s = execGrant s := by rfl

theorem State.grantPossible_iff (s : State) :
    s.grantPossible = true ↔ s.pool.reserved < s.pool.free.length ∧ ∃ b, s.grantee = some b := by
  rw [State.grantPossible, Bool.and_eq_true, decide_eq_true_iff, Option.isSome_iff_exists, State.freeCount]

/-- GRANT is made to the branch that the arbiter picks, where an unreserved buffer is free (R98). -/
theorem exec_grant_of_grantee {s : State} {b : Branch} (hrst : s.rstLow = false)
    (hfree : s.pool.reserved < s.pool.free.length) (hb : s.grantee = some b) :
    exec .grant s = .next (s.grantTo b).updateWaiting := by
  have htake : s.takeGrant = s.grantTo b := by simp only [State.takeGrant, hb]
  rw [exec_grant, ← htake]
  exact takeEvent_of_possible hrst (s.grantPossible_iff.mpr ⟨hfree, b, hb⟩) _

/-- A grant raises the reservation count, and the head REQUEST leaves the queue for the slot (R98, R44). -/
theorem State.grantTo_of_routed {s : State} {b : Branch} {n : BufferId} {rest : List BufferId} {r : RoutePart}
    (hqueue : (s.branch b).queue = n :: rest) (hroute : (s.desc n).route = some r) :
    s.grantTo b = (s.setPool { s.pool with reserved := s.pool.reserved + 1 }).setBranch b
      { s.branch b with queue := rest, slot := some (Slot.opened n (s.desc n) r) } := by
  simp only [State.grantTo, hqueue, hroute]
  rfl

/-! ## The obligation -/

/-- Settles O25: the arbiter's fold keeps the first of highest of what it has passed, and the grant to it is one change of
pool and branch. -/
theorem grantOpensSlotOfHighestLevel : Obligations.GrantOpensSlotOfHighestLevel := by
  unfold Obligations.GrantOpensSlotOfHighestLevel
  refine ⟨?choice, ?opened⟩
  case choice =>
    intro s hsettled hwaiting
    have hall := hsettled.filter_eligible
    obtain ⟨b, hb, hfirst⟩ := State.grantee_firstOfHighest (hall.symm ▸ hwaiting)
    rw [hall] at hfirst
    obtain ⟨before, after, hsplit, hbefore, hafter⟩ := hfirst
    exact ⟨b, before, after, hb, hsplit, hbefore, hafter⟩
  case opened =>
    intro s b n rest r hrst hfree hb hqueue hroute
    rw [exec_grant_of_grantee hrst hfree hb, State.grantTo_of_routed hqueue hroute]
    rfl

end Sys2Proof.Machine
end

section
/-! PROOFS. SET_POLICY sets the three policy settings of its branch and leaves the joining order of the waiting set as the
conditions of R97 have it (R131, R183). -/

namespace Sys2Proof.Machine

/-! ## Reading the operands of SET_POLICY (R213) -/

theorem readRange_of_inRange {lo hi : Nat} {c : Byte} (h : inRange lo hi c.toNat) : readRange lo hi c = some c.toNat :=
  if_pos h

theorem readFlag_of_le_one {c : Byte} (h : c.toNat ≤ 1) : readFlag c = some (decide (c = 1)) := by
  obtain rfl | rfl : c = 0 ∨ c = 1 := by bv_omega
  · rfl
  · rfl

/-! ## The effect of SET_POLICY (R131) -/

/-- The effect of SET_POLICY: the queue limit, the grant level and the broadcast option of a branch take these values. -/
def State.setPolicy (b : Branch) (limit level : Nat) (option : Bool) (s : State) : State :=
  s.setBranch b { s.branch b with queueLimit := limit, grantLevel := level, broadcast := option }

/-- The operands of SET_POLICY, each in its range, give all three settings to the branch that they name. -/
theorem setPolicyCompletion_eq (s : State) (b : Branch) {limit level option : Byte} (hlimit : inRange 1 16 limit.toNat)
    (hlevel : inRange 1 7 level.toNat) (hoption : option.toNat ≤ 1) :
    setPolicyCompletion s [byteOf b.number, limit, level, option] =
      Completion.done [] (State.setPolicy b limit.toNat level.toNat (decide (option = 1))) := by
  have hbranch : readBranch (charAt [byteOf b.number, limit, level, option] 0) = some b := readBranch_number b
  have hq : readRange 1 16 (charAt [byteOf b.number, limit, level, option] 1) = some limit.toNat :=
    readRange_of_inRange hlimit
  have hg : readRange 1 7 (charAt [byteOf b.number, limit, level, option] 2) = some level.toNat :=
    readRange_of_inRange hlevel
  have ho : readFlag (charAt [byteOf b.number, limit, level, option] 3) = some (decide (option = 1)) :=
    readFlag_of_le_one hoption
  rw [setPolicyCompletion, hbranch, hq, hg, ho]
  rfl

theorem exec_setPolicy (s : State) : exec .setPolicy s = execCommand .setPolicy setPolicyCompletion s := by rfl

/-- Any branch keeps all of its port but the policy settings. -/
theorem State.setPolicy_branch (b : Branch) (limit level : Nat) (option : Bool) (s : State) (c : Branch) :
    ∃ q g o, (s.setPolicy b limit level option).branch c =
      { s.branch c with queueLimit := q, grantLevel := g, broadcast := o } := by
  by_cases hcb : c = b
  · exact ⟨limit, level, option, hcb ▸ State.setBranch_same s b _⟩
  · exact ⟨_, _, _, State.setBranch_of_ne s _ hcb⟩

theorem State.setPolicy_queue (b : Branch) (limit level : Nat) (option : Bool) (s : State) (c : Branch) :
    ((s.setPolicy b limit level option).branch c).queue = (s.branch c).queue := by
  obtain ⟨_, _, _, hport⟩ := s.setPolicy_branch b limit level option c
  rw [hport]

/-! ## The conditions of the waiting set at a completion (R97) -/

/-- No condition of the waiting set rests on the policy settings. -/
theorem State.setPolicy_eligible (b : Branch) (limit level : Nat) (option : Bool) (s : State) (c : Branch) :
    (s.setPolicy b limit level option).eligible c = s.eligible c := by
  obtain ⟨_, _, _, hport⟩ := s.setPolicy_branch b limit level option c
  exact State.eligible_congr (by rw [hport]) (by rw [hport]) (by rw [hport]) (by rw [hport]) fun _ _ => rfl

/-- The end of a completion whose response carries nothing leaves every branch as the command's effect has it. -/
theorem State.complete_branch {x : Completion} (hcarry : x.carry = .nothing) (n : BufferId) (s : State) (c : Branch) :
    (s.complete n x).branch c = (x.effect s).branch c := by
  unfold State.complete State.finish
  rw [hcarry]
  split
  case isTrue => simp [State.branch, State.nextCommand, State.respond, State.leavePending]
  case isFalse => simp [State.branch, State.nextCommand, State.takesEffectNow]

/-- Of a branch whose queue head is not the command's own buffer, the end of a completion whose response carries nothing
leaves the conditions as the command's effect has them. -/
theorem State.complete_eligible {x : Completion} {n : BufferId} {s : State} {c : Branch} (hcarry : x.carry = .nothing)
    (hhead : ((x.effect s).branch c).queue.head? ≠ some n) :
    (s.complete n x).eligible c = (x.effect s).eligible c := by
  have hport := State.complete_branch hcarry n s c
  obtain ⟨-, hkind⟩ := State.complete_pool (s := s) (n := n) rfl hcarry
  refine State.eligible_congr (by rw [hport]) (by rw [hport]) (by rw [hport]) (by rw [hport]) fun m hm => hkind m ?_
  rintro rfl
  exact hhead hm

/-! ## The obligation -/

/-- Settles O51: the effect changes the policy settings of one branch, no condition of the waiting set rests on them, and
the rest of the completion touches the kind of the command's own buffer alone. -/
theorem setPolicySetsPolicy : Obligations.SetPolicySetsPolicy := by
  unfold Obligations.SetPolicySetsPolicy
  intro s n rest b limit level option h hops hlimit hlevel hoption
  have hexec := execCommand_of_executing h setPolicyCompletion
  rw [hops, Command.judge_of_takes (by decide) rfl, setPolicyCompletion_eq s b hlimit hlevel hoption] at hexec
  obtain ⟨-, hqueue, -⟩ := h
  rw [exec_setPolicy]
  refine ⟨_, hexec, ?settings, ?order, ?conditions⟩
  case settings =>
    exact State.complete_concluded rfl rfl (State.setBranch_buffer s b _ n) hqueue rfl
  case order =>
    obtain ⟨hwaiting, -⟩ := State.complete_pool (s := s) (n := n)
      (x := Completion.done [] (State.setPolicy b limit.toNat level.toNat (decide (option = 1)))) rfl rfl
    exact hwaiting ▸ State.updateWaiting_waiting _
  case conditions =>
    intro c hhead
    rw [← State.setPolicy_queue b limit.toNat level.toNat (decide (option = 1))] at hhead
    exact (State.complete_eligible rfl hhead).trans (State.setPolicy_eligible b _ _ _ s c)

end Sys2Proof.Machine
end

section
/-! PROOFS. What an event does, once for every row: whether it is possible, its effect, and what a step can come to. Every
later proof about a step goes through these lemmas. -/

namespace Sys2Proof.Machine

/-! ## Commands by their row (R173) -/

/-- The own tests, data and effect of the command of a row. -/
def Command.own : Command → State → List Byte → Completion
  | .identify => identifyCompletion
  | .readStatus => readStatusCompletion
  | .readCounters => readCountersCompletion
  | .readEntry => readEntryCompletion
  | .writeEntry => writeEntryCompletion
  | .clearEntry => clearEntryCompletion
  | .loadWorking => loadWorkingCompletion
  | .commit => commitCompletion
  | .setAdmission => setAdmissionCompletion
  | .setLine => setLineCompletion
  | .trunkSetLine => trunkSetLineCompletion
  | .setPolicy => setPolicyCompletion
  | .resetBranch => resetBranchCompletion
  | .setAddress => setAddressCompletion
  | .restart => restartCompletion
  | .echo => echoCompletion
  | .unknown => unknownCompletion

/-- What the command in buffer n comes to when it completes as a command of row c. -/
def State.outcome (s : State) (c : Command) (n : BufferId) : Completion :=
  c.judge (s.operandsOf n) (c.own s (s.operandsOf n))

theorem exec_command (c : Command) (s : State) : exec c.event s = execCommand c c.own s := by
  cases c <;> rfl

theorem exec_command_of_executing {s : State} {c : Command} {n : BufferId} {rest : List BufferId}
    (h : s.Executing c n rest) : exec c.event s = .next (s.complete n (s.outcome c n)).updateWaiting := by
  rw [exec_command, execCommand_of_executing h]
  rfl

/-- The outcome of a command with these operands, whose count is right, is its own. -/
theorem State.outcome_of_takes {s : State} {c : Command} {n : BufferId} {ops : List Byte}
    (hops : commandOperands (s.chars n) = ops) (hc : c ≠ .unknown) (ht : c.takes ops.length = true) :
    s.outcome c n = c.own s ops := by
  subst hops
  exact Command.judge_of_takes hc ht _

/-! ## Events -/

/-- The rows that are taken as events: all but the two of the reset input, and ADDRESS_CHARACTER, which may ask for a
conversion. -/
def isEvent : Instr → Bool
  | .powerOnReset _ _ => false
  | .rstLow => false
  | .addressCharacter _ _ _ _ => false
  | _ => true

/-- The conditions of an event hold. -/
def State.possible (s : State) : Instr → Bool
  | .powerOnReset _ _ => false
  | .rstLow => false
  | .addressCharacter _ _ _ _ => false
  | .dataCharacter p _ _ _ => s.delivers p
  | .gapTimerExpiry p => (s.awaitGap p).gapTimerExpiryDue p
  | .grant => s.grantPossible
  | .sendStart b => (s.branch b).awaitQuiet.sendStartDue
  | .endOfTransmission b => (s.branch b).awaitSending.endOfTransmissionDue
  | .replyTimerExpiry b => (s.branch b).awaitReply.replyTimerExpiryDue
  | .datagramStart b => (s.onBranch b BranchPort.awaitQuiet).datagramStartDue b
  | .datagramEnd b => (s.branch b).awaitSending.datagramEndDue
  | .stoppedCharacterEnd p => (s.awaitSending p).stoppedCharacterEndDue p
  | .breakHeard b => (s.branch b).takesBreak
  | .breakEnd p => s.isBreakIn p
  | .settlingEnd p => s.isSettling p
  | .jam b => (s.branch b).awaitJam.jamDue
  | .breakEmissionEnd b => (s.branch b).awaitEmission.breakEmissionEndDue
  | .trunkLineReset => s.trunk.line.hearsBreak
  | .spacingEnd => s.trunk.awaitTransmitter.spacingEndDue
  | .transmissionEnd => s.trunk.awaitTransmitter.transmissionEndDue
  | .identify => s.executes .identify
  | .readStatus => s.executes .readStatus
  | .readCounters => s.executes .readCounters
  | .readEntry => s.executes .readEntry
  | .writeEntry => s.executes .writeEntry
  | .clearEntry => s.executes .clearEntry
  | .loadWorking => s.executes .loadWorking
  | .commit => s.executes .commit
  | .setAdmission => s.executes .setAdmission
  | .setLine => s.executes .setLine
  | .trunkSetLine => s.executes .trunkSetLine
  | .setPolicy => s.executes .setPolicy
  | .resetBranch => s.executes .resetBranch
  | .setAddress => s.executes .setAddress
  | .restart => s.executes .restart
  | .echo => s.executes .echo
  | .unknownCommand => s.executes .unknown
  | .startBitLeadingEdge p => s.takesEdge p
  | .falseStart p => s.takesFalseStart p

/-- The effect of an event, before the waiting set follows from it. -/
def State.effect (s : State) : Instr → State
  | .powerOnReset _ _ => s
  | .rstLow => s
  | .addressCharacter _ _ _ _ => s
  | .dataCharacter p v noisy damaged => s.takeData p v noisy damaged
  | .gapTimerExpiry p => s.takeGapTimerExpiry p
  | .grant => s.takeGrant
  | .sendStart b => s.takeSendStart b
  | .endOfTransmission b => s.takeEndOfTransmission b
  | .replyTimerExpiry b => s.takeReplyTimerExpiry b
  | .datagramStart b => s.takeDatagramStart b
  | .datagramEnd b => s.takeDatagramEnd b
  | .stoppedCharacterEnd p => s.takeStoppedCharacterEnd p
  | .breakHeard b => s.takeBreak b
  | .breakEnd p => s.settle p
  | .settlingEnd p => s.takeSettlingEnd p
  | .jam b => s.takeJam b
  | .breakEmissionEnd b => s.onBranch b BranchPort.goSettling
  | .trunkLineReset => s.takeTrunkLineReset
  | .spacingEnd => s.takeSpacingEnd
  | .transmissionEnd => s.takeTransmissionEnd
  | .identify => s.completeAs .identify (Command.own .identify)
  | .readStatus => s.completeAs .readStatus (Command.own .readStatus)
  | .readCounters => s.completeAs .readCounters (Command.own .readCounters)
  | .readEntry => s.completeAs .readEntry (Command.own .readEntry)
  | .writeEntry => s.completeAs .writeEntry (Command.own .writeEntry)
  | .clearEntry => s.completeAs .clearEntry (Command.own .clearEntry)
  | .loadWorking => s.completeAs .loadWorking (Command.own .loadWorking)
  | .commit => s.completeAs .commit (Command.own .commit)
  | .setAdmission => s.completeAs .setAdmission (Command.own .setAdmission)
  | .setLine => s.completeAs .setLine (Command.own .setLine)
  | .trunkSetLine => s.completeAs .trunkSetLine (Command.own .trunkSetLine)
  | .setPolicy => s.completeAs .setPolicy (Command.own .setPolicy)
  | .resetBranch => s.completeAs .resetBranch (Command.own .resetBranch)
  | .setAddress => s.completeAs .setAddress (Command.own .setAddress)
  | .restart => s.completeAs .restart (Command.own .restart)
  | .echo => s.completeAs .echo (Command.own .echo)
  | .unknownCommand => s.completeAs .unknown (Command.own .unknown)
  | .startBitLeadingEdge p => s.takeStartBit p
  | .falseStart p => s.takeFalseStart p

theorem exec_eq_takeEvent {i : Instr} (h : isEvent i = true) (s : State) :
    exec i s = takeEvent (s.possible i) (fun u => u.effect i) s := by
  cases i with
  | powerOnReset => cases h
  | rstLow => cases h
  | addressCharacter => cases h
  | _ => rfl

/-- An event whose conditions hold is of a row that is taken as an event. -/
theorem isEvent_of_possible {s : State} {i : Instr} (h : s.possible i = true) : isEvent i = true := by
  cases i with
  | powerOnReset => cases h
  | rstLow => cases h
  | addressCharacter => cases h
  | _ => rfl

theorem exec_of_possible {s : State} {i : Instr} (hrst : s.rstLow = false) (h : s.possible i = true) :
    exec i s = .next (s.effect i).updateWaiting := by
  rw [exec_eq_takeEvent (isEvent_of_possible h)]
  exact takeEvent_of_possible hrst h _

theorem exec_of_not_possible {s : State} {i : Instr} (hevent : isEvent i = true) (h : s.possible i = false) :
    exec i s = .next s := by
  rw [exec_eq_takeEvent hevent, takeEvent, h]
  simp

theorem exec_addressCharacter (p : Port) (v : Byte) (noisy damaged : Bool) (s : State) :
    exec (.addressCharacter p v noisy damaged) s = execAddressCharacter p v noisy damaged s := by rfl

theorem exec_powerOnReset (sa : BitVec 3) (tr : BitVec 2) (s : State) :
    exec (.powerOnReset sa tr) s = .next (State.powerOn sa tr s) := by rfl

theorem exec_rstLow (s : State) : exec .rstLow s = .next s.heldLow := by rfl

/-! ## What executing a row can come to -/

/-- The states that a row can lead to. -/
inductive Leads (s : State) : Instr → State → Prop
  | kept (i : Instr) : Leads s i s
  | powerOn (sa : BitVec 3) (tr : BitVec 2) : Leads s (.powerOnReset sa tr) (State.powerOn sa tr s)
  | heldLow : Leads s .rstLow s.heldLow
  | address (p : Port) (v : Byte) (noisy damaged : Bool) (u : State) : s.delivers p = true →
      s.takeAddress p v noisy damaged = some u → Leads s (.addressCharacter p v noisy damaged) u.updateWaiting
  | event (i : Instr) : s.rstLow = false → s.possible i = true → Leads s i (s.effect i).updateWaiting

theorem leads_of_takeEvent {s t : State} {i : Instr} (hevent : isEvent i = true) (h : exec i s = .next t) :
    Leads s i t := by
  rw [exec_eq_takeEvent hevent] at h
  unfold takeEvent at h
  split at h
  case isTrue => cases h; exact .kept i
  case isFalse hcond =>
    cases h
    simp only [Bool.or_eq_true, Bool.not_eq_true', not_or, Bool.not_eq_true, Bool.not_eq_false] at hcond
    exact .event i hcond.1 hcond.2

theorem leads_of_addressCharacter {s t : State} {p : Port} {v : Byte} {noisy damaged : Bool}
    (h : exec (.addressCharacter p v noisy damaged) s = .next t) : Leads s (.addressCharacter p v noisy damaged) t := by
  rw [exec_addressCharacter] at h
  unfold execAddressCharacter at h
  split at h
  case isTrue => cases h; exact .kept _
  case isFalse hcond =>
    simp only [Bool.or_eq_true, Bool.not_eq_true', not_or, Bool.not_eq_true, Bool.not_eq_false] at hcond
    split at h
    case h_1 u hu => cases h; exact .address p v noisy damaged u hcond.2 hu
    case h_2 => cases h

theorem leads_of_exec {s t : State} {i : Instr} (h : exec i s = .next t) : Leads s i t := by
  cases hevent : isEvent i with
  | true => exact leads_of_takeEvent hevent h
  | false =>
    cases i with
    | powerOnReset sa tr => rw [exec_powerOnReset] at h; cases h; exact .powerOn sa tr
    | rstLow => rw [exec_rstLow] at h; cases h; exact .heldLow
    | addressCharacter p v noisy damaged => exact leads_of_addressCharacter h
    | _ => cases hevent

/-! ## What an idle step can come to (log entries 1 and 4) -/

/-- Of an idle step the part keeps all but the waiting events and the count of choices, or one cycle passes. -/
theorem State.idle_cases (s : State) :
    (∃ q k, s.idle = { s with pending := q, choices := k }) ∨ ∃ k, s.idle = { s.cycle with choices := k } := by
  have hmake : ∀ (k : Nat) (m : Move), (∃ q k', ({ s with choices := k } : State).make m = { s with pending := q, choices := k' }) ∨
      ∃ k', ({ s with choices := k } : State).make m = { s.cycle with choices := k' } := by
    intro k m
    cases m with
    | take i => exact .inl ⟨_, k, rfl⟩
    | cycle => exact .inr ⟨k, rfl⟩
  unfold State.idle
  split
  case isTrue => exact .inl ⟨s.pending, s.choices, rfl⟩
  case isFalse =>
    split
    case h_1 m _ => exact hmake s.choices m
    case h_2 => exact hmake _ _

/-- What is kept at every step is what is kept by the waiting events and choices, by a cycle of REFCLK, and by every row. -/
theorem step_preserves {P : State → Prop} (hmodel : ∀ (s : State) q k, P s → P { s with pending := q, choices := k })
    (hcycle : ∀ s : State, P s → P s.cycle) (hleads : ∀ (s t : State) (i : Instr), Leads s i t → P s → P t)
    {s t : State} (hs : P s) (h : step s = .next t) : P t := by
  unfold step at h
  split at h
  case h_1 =>
    cases h
    rcases s.idle_cases with ⟨q, k, he⟩ | ⟨k, he⟩
    · exact he ▸ hmodel s q k hs
    · exact he ▸ hmodel s.cycle s.cycle.pending k (hcycle s hs)
  case h_2 c rest _ =>
    exact hleads _ t c (leads_of_exec h) (hmodel s rest s.choices hs)

/-- An executing command of row c, and what its event makes of the state. -/
theorem State.completeAs_of_executes {s : State} {c : Command} (h : s.executes c = true) :
    ∃ n rest, s.agent.queue = n :: rest ∧ s.commandIn n = c ∧ s.completeAs c c.own = s.complete n (s.outcome c n) := by
  unfold State.executes at h
  split at h
  case h_1 => cases h
  case h_2 n rest hq => exact ⟨n, rest, hq, beq_iff_eq.mp h, by simp only [State.completeAs, hq]; rfl⟩

end Sys2Proof.Machine
end

section
/-! PROOFS. How an operation may move the part: the invariants it keeps (R23, R111, R114 to R116, the ranges) and the counters
it does not lower (R200), in three strengths, each of them closed under one operation after another. -/

namespace Sys2Proof.Machine

/-! ## Counters -/

/-- No counter of the bank is lower in the second one. -/
def CounterBank.RisesTo {n : Nat} (c d : CounterBank n) : Prop := ∀ i, (c.counts.get i).toNat ≤ (d.counts.get i).toNat

theorem CounterBank.RisesTo.refl {n : Nat} (c : CounterBank n) : c.RisesTo c := fun _ => le_rfl

theorem CounterBank.RisesTo.trans {n : Nat} {c d e : CounterBank n} (h : c.RisesTo d) (h' : d.RisesTo e) : c.RisesTo e :=
  fun i => (h i).trans (h' i)

theorem saturate_toNat (w : Word) : (saturate w).toNat = min (w.toNat + 1) 65535 := by
  unfold saturate
  split
  case isTrue h => subst h; rfl
  case isFalse h =>
    have hlt : w.toNat ≠ 65535 := fun e => h (BitVec.eq_of_toNat_eq e)
    rw [BitVec.toNat_add]
    have := w.isLt
    simp only [BitVec.ofNat_eq_ofNat, BitVec.toNat_ofNat]
    omega

/-- A count raises its own counter as far as it goes, and no other (R200). -/
theorem CounterBank.count_get {n : Nat} (c : CounterBank n) (i j : Fin n) (e : Bool) :
    (c.count i e).counts.get j = if j = i then saturate (c.counts.get j) else c.counts.get j := by
  rw [CounterBank.count, vector_get_set]
  by_cases h : j = i
  · subst h; simp
  · simp [h]

theorem CounterBank.risesTo_count {n : Nat} (c : CounterBank n) (i : Fin n) (e : Bool) : c.RisesTo (c.count i e) := by
  intro j
  rw [CounterBank.count_get]
  split
  case isTrue =>
    have := (c.counts.get j).isLt
    rw [saturate_toNat]
    omega
  case isFalse => exact le_rfl

/-! ## The three strengths at a branch -/

/-- The invariants of a branch are kept. -/
structure BranchPort.Settles (p q : BranchPort) : Prop where
  inRange : p.InRange → q.InRange
  closed : p.ClosedIsOff → q.ClosedIsOff
  drives : p.ClosedIsOff → p.DrivesWhatItSends → q.DrivesWhatItSends

/-- The invariants of a branch are kept, and no counter of it falls. -/
structure BranchPort.Evolves (p q : BranchPort) : Prop extends p.Settles q where
  counters : p.counters.RisesTo q.counters

/-- Admission, line and transmission stay, no frame begins to assemble, a CLOSED branch takes no traffic, and no counter
falls. -/
structure BranchPort.Still (p q : BranchPort) : Prop where
  inRange : p.InRange → q.InRange
  admission : q.admission = p.admission
  line : q.line = p.line
  sending : q.sending = p.sending
  assembler : p.assembler = none → q.assembler = none
  queue : p.admission = .closed → p.queue = [] → q.queue = []
  slot : p.slot = none → p.admission = .closed → q.slot = none
  datagram : p.datagram = none → q.datagram = none
  counters : p.counters.RisesTo q.counters

theorem BranchPort.Settles.refl (p : BranchPort) : p.Settles p := ⟨id, id, fun _ => id⟩

theorem BranchPort.Settles.trans {p q r : BranchPort} (h : p.Settles q) (h' : q.Settles r) : p.Settles r :=
  ⟨h'.inRange ∘ h.inRange, h'.closed ∘ h.closed, fun hc hd => h'.drives (h.closed hc) (h.drives hc hd)⟩

theorem BranchPort.Evolves.refl (p : BranchPort) : p.Evolves p := ⟨.refl p, .refl _⟩

theorem BranchPort.Evolves.trans {p q r : BranchPort} (h : p.Evolves q) (h' : q.Evolves r) : p.Evolves r :=
  ⟨h.toSettles.trans h'.toSettles, h.counters.trans h'.counters⟩

theorem BranchPort.Still.refl (p : BranchPort) : p.Still p :=
  ⟨id, rfl, rfl, rfl, id, fun _ => id, fun h _ => h, id, .refl _⟩

theorem BranchPort.Still.trans {p q r : BranchPort} (h : p.Still q) (h' : q.Still r) : p.Still r where
  inRange := h'.inRange ∘ h.inRange
  admission := h'.admission.trans h.admission
  line := h'.line.trans h.line
  sending := h'.sending.trans h.sending
  assembler := h'.assembler ∘ h.assembler
  queue := fun hc hq => h'.queue (h.admission.trans hc) (h.queue hc hq)
  slot := fun hs hc => h'.slot (h.slot hs hc) (h.admission.trans hc)
  datagram := h'.datagram ∘ h.datagram
  counters := h.counters.trans h'.counters

theorem BranchPort.Still.evolves {p q : BranchPort} (h : p.Still q) : p.Evolves q where
  inRange := h.inRange
  closed := by
    rintro ⟨hoff, hempty⟩
    refine ⟨by rw [h.admission, h.line]; exact hoff, fun hc => ?_⟩
    have hp := h.admission.symm.trans hc
    obtain ⟨hqueue, hslot, hasm, hdata⟩ := hempty hp
    exact ⟨h.queue hp hqueue, h.slot hslot hp, h.assembler hasm, h.datagram hdata⟩
  drives := by
    rintro - ⟨hdriving, hsending, hasm⟩
    refine ⟨by rw [h.line, h.sending]; exact hdriving, by rw [h.line, h.sending]; exact hsending, fun hq => ?_⟩
    exact h.line.trans (hasm fun hn => hq (h.assembler hn))
  counters := h.counters

/-! ## Changes of a branch that leave it still -/

theorem BranchPort.still_count (p : BranchPort) (c : BranchCounter) : p.Still (p.count c) :=
  { BranchPort.Still.refl p with counters := CounterBank.risesTo_count _ _ _ }

theorem BranchPort.still_receiver (p : BranchPort) (r : Receiver) : p.Still { p with receiver := r } :=
  { BranchPort.Still.refl p with }

/-- A slot opens on no CLOSED branch. -/
theorem BranchPort.still_slot (p : BranchPort) (x : Option Slot) (l : Option LastClosed)
    (h : p.admission = .closed → p.slot = none → x = none) : p.Still { p with slot := x, lastClosed := l } :=
  { BranchPort.Still.refl p with slot := fun hs hc => h hc hs }

theorem BranchPort.still_slot_none (p : BranchPort) (l : Option LastClosed) : p.Still { p with slot := none, lastClosed := l } :=
  p.still_slot none l fun _ _ => rfl

/-- An open slot may be replaced. -/
theorem BranchPort.still_slot_some {p : BranchPort} {x : Slot} (h : p.slot = some x) (y : Option Slot) :
    p.Still { p with slot := y } :=
  p.still_slot y p.lastClosed fun _ hn => absurd (hn.symm.trans h) (by simp)

theorem BranchPort.still_assembler_none (p : BranchPort) : p.Still { p with assembler := none } :=
  { BranchPort.Still.refl p with assembler := fun _ => rfl }

theorem BranchPort.still_datagram_none (p : BranchPort) : p.Still { p with datagram := none } :=
  { BranchPort.Still.refl p with datagram := fun _ => rfl }

theorem BranchPort.still_emptied (p : BranchPort) : p.Still { p with queue := [], assembler := none } :=
  { BranchPort.Still.refl p with
    inRange := fun ⟨hg, ht, hl, hv, _⟩ => ⟨hg, ht, hl, hv, Nat.zero_le _⟩
    assembler := fun _ => rfl
    queue := fun _ _ => rfl }

/-- A frame joins the queue of a branch that is not CLOSED below its queue limit (R80, R106). -/
theorem BranchPort.still_append {p : BranchPort} (n : BufferId) (hopen : p.admission ≠ .closed)
    (hroom : p.queue.length < p.queueLimit) : p.Still { p with queue := p.queue ++ [n] } :=
  { BranchPort.Still.refl p with
    inRange := fun ⟨hg, ht, hl, hv, _⟩ => ⟨hg, ht, hl, hv, by
      have := hl.2
      simp only [List.length_append, List.length_singleton]
      omega⟩
    queue := fun hc => absurd hc hopen }

/-! ## The three strengths of the whole part -/

/-- What concerns the trunk and the agent in InRange. -/
def State.TrunkInRange (s : State) : Prop :=
  inRange 1 15 s.trunk.rxSettings.gapLimit ∧ inRange 1 15 s.trunk.txSettings.gapLimit ∧
  (∀ p, s.agent.pendingSetting = some p → inRange 1 15 p.settings.gapLimit) ∧
  s.agent.queue.length ≤ 2 ∧ s.trunk.refusals.length ≤ 4

theorem State.inRange_iff (s : State) : s.InRange ↔ (∀ b, (s.branch b).InRange) ∧ s.TrunkInRange := Iff.rfl

/-- ACTIVE stays sound, the branches and the trunk are related as given, the ranges of trunk and agent are kept, and no branch
comes to wait twice. -/
structure State.Over (R : BranchPort → BranchPort → Prop) (T : TrunkPort → TrunkPort → Prop) (s t : State) : Prop where
  map : s.MapSound → t.MapSound
  branch : ∀ b, R (s.branch b) (t.branch b)
  trunk : T s.trunk t.trunk
  ranges : s.TrunkInRange → t.TrunkInRange
  waiting : s.pool.waiting.Nodup → t.pool.waiting.Nodup

/-- No counter of the trunk falls. -/
def TrunkPort.Rises (t u : TrunkPort) : Prop := t.counters.RisesTo u.counters

/-- Nothing is said of the counters of the trunk. -/
def TrunkPort.Free (_t _u : TrunkPort) : Prop := True

/-- The invariants are kept. -/
abbrev State.Settles (s t : State) : Prop := s.Over BranchPort.Settles TrunkPort.Free t

/-- The invariants are kept, and no counter falls. -/
abbrev State.Evolves (s t : State) : Prop := s.Over BranchPort.Evolves TrunkPort.Rises t

/-- The invariants are kept, no counter falls, and every branch keeps its admission, line and transmission. -/
abbrev State.Still (s t : State) : Prop := s.Over BranchPort.Still TrunkPort.Rises t

theorem State.Over.refl {R : BranchPort → BranchPort → Prop} {T : TrunkPort → TrunkPort → Prop} (hR : ∀ p, R p p)
    (hT : ∀ t, T t t) (s : State) : s.Over R T s := ⟨id, fun _ => hR _, hT _, id, id⟩

theorem State.Over.trans {R R' R'' : BranchPort → BranchPort → Prop} {T T' T'' : TrunkPort → TrunkPort → Prop}
    (hR : ∀ {p q r}, R p q → R' q r → R'' p r) (hT : ∀ {t u v}, T t u → T' u v → T'' t v) {s t u : State}
    (h : s.Over R T t) (h' : t.Over R' T' u) : s.Over R'' T'' u :=
  ⟨h'.map ∘ h.map, fun b => hR (h.branch b) (h'.branch b), hT h.trunk h'.trunk, h'.ranges ∘ h.ranges,
    h'.waiting ∘ h.waiting⟩

theorem State.Over.mono {R R' : BranchPort → BranchPort → Prop} {T T' : TrunkPort → TrunkPort → Prop}
    (hR : ∀ {p q}, R p q → R' p q) (hT : ∀ {t u}, T t u → T' t u) {s t : State} (h : s.Over R T t) : s.Over R' T' t :=
  ⟨h.map, fun b => hR (h.branch b), hT h.trunk, h.ranges, h.waiting⟩

theorem State.Still.refl (s : State) : s.Still s := Over.refl .refl (fun _ => .refl _) s
theorem State.Evolves.refl (s : State) : s.Evolves s := Over.refl .refl (fun _ => .refl _) s
theorem State.Settles.refl (s : State) : s.Settles s := Over.refl .refl (fun _ => trivial) s

theorem State.Still.trans {s t u : State} (h : s.Still t) (h' : t.Still u) : s.Still u :=
  Over.trans .trans .trans h h'
theorem State.Evolves.trans {s t u : State} (h : s.Evolves t) (h' : t.Evolves u) : s.Evolves u :=
  Over.trans .trans .trans h h'
theorem State.Settles.trans {s t u : State} (h : s.Settles t) (h' : t.Settles u) : s.Settles u :=
  Over.trans .trans (fun _ _ => trivial) h h'

theorem State.Still.evolves {s t : State} (h : s.Still t) : s.Evolves t := h.mono BranchPort.Still.evolves id
theorem State.Evolves.settles {s t : State} (h : s.Evolves t) : s.Settles t :=
  h.mono BranchPort.Evolves.toSettles fun _ => trivial
theorem State.Still.settles {s t : State} (h : s.Still t) : s.Settles t := h.evolves.settles

theorem State.Settles.inRange {s t : State} (h : s.Settles t) (hs : s.InRange) : t.InRange :=
  t.inRange_iff.mpr ⟨fun b => (h.branch b).inRange (hs.1 b), h.ranges hs.2⟩

theorem State.Settles.closedIsOff {s t : State} (h : s.Settles t) (hs : s.ClosedIsOff) : t.ClosedIsOff :=
  fun b => (h.branch b).closed (hs b)

theorem State.Settles.drives {s t : State} (h : s.Settles t) (hc : s.ClosedIsOff) (hd : s.DrivesWhatItSends) :
    t.DrivesWhatItSends := fun b => (h.branch b).drives (hc b) (hd b)

theorem CounterBank.RisesTo.getD {n : Nat} {c d : CounterBank n} (h : c.RisesTo d) (i : Nat) :
    (c.counts.toList.getD i 0).toNat ≤ (d.counts.toList.getD i 0).toNat := by
  by_cases hi : i < n
  · simpa [List.getD_eq_getElem?_getD, hi, Vector.get_eq_getElem] using h ⟨i, hi⟩
  · simp [List.getD_eq_getElem?_getD, hi]

theorem State.Evolves.countersRise {s t : State} (h : s.Evolves t) : CountersRise s t := by
  intro p i
  cases p with
  | trunk => exact h.trunk.getD i
  | branch b => exact (h.branch b).counters.getD i

/-! ## Writing one part -/

section
variable {R : BranchPort → BranchPort → Prop} {T : TrunkPort → TrunkPort → Prop}

theorem State.over_onBranch (hR : ∀ p, R p p) (hT : ∀ t, T t t) {s : State} {b : Branch} {f : BranchPort → BranchPort}
    (h : R (s.branch b) (f (s.branch b))) : s.Over R T (s.onBranch b f) := by
  refine ⟨id, fun c => ?_, hT _, id, id⟩
  by_cases hc : c = b
  · subst hc; rwa [State.onBranch_same]
  · rw [State.onBranch_of_ne f s hc]; exact hR _

theorem State.over_branches (hT : ∀ t, T t t) {s : State} {f : BranchPort → BranchPort} (h : ∀ p, R p (f p)) :
    s.Over R T { s with branches := s.branches.map f } := by
  refine ⟨id, fun c => ?_, hT _, id, id⟩
  have hc : ({ s with branches := s.branches.map f } : State).branch c = f (s.branch c) := PerBranch.get_map f s.branches c
  rw [hc]
  exact h _

end

theorem State.still_onBranch {s : State} {b : Branch} {f : BranchPort → BranchPort}
    (h : (s.branch b).Still (f (s.branch b))) : s.Still (s.onBranch b f) := over_onBranch .refl (fun _ => .refl _) h

theorem State.evolves_onBranch {s : State} {b : Branch} {f : BranchPort → BranchPort}
    (h : (s.branch b).Evolves (f (s.branch b))) : s.Evolves (s.onBranch b f) := over_onBranch .refl (fun _ => .refl _) h

theorem State.settles_onBranch {s : State} {b : Branch} {f : BranchPort → BranchPort}
    (h : (s.branch b).Settles (f (s.branch b))) : s.Settles (s.onBranch b f) := over_onBranch .refl (fun _ => trivial) h

theorem State.still_setPool {s : State} {p : Pool} (h : s.pool.waiting.Nodup → p.waiting.Nodup) : s.Still (s.setPool p) :=
  ⟨id, fun _ => .refl _, .refl _, id, h⟩

/-- The map but for ACTIVE. -/
theorem State.still_setMap {s : State} {m : StationMap} (h : m.active = s.map.active) : s.Still (s.setMap m) := by
  refine ⟨fun hs => ?_, fun _ => .refl _, .refl _, id, id⟩
  unfold State.MapSound at *
  rw [State.setMap_map, h]
  exact hs

/-- The trunk but for its settings, where the refusal store stays in its range. -/
theorem State.still_setTrunk {s : State} {t : TrunkPort} (hc : s.trunk.counters.RisesTo t.counters)
    (hr : t.rxSettings = s.trunk.rxSettings) (ht : t.txSettings = s.trunk.txSettings)
    (hl : s.trunk.refusals.length ≤ 4 → t.refusals.length ≤ 4) : s.Still (s.setTrunk t) := by
  refine ⟨id, fun _ => .refl _, hc, fun ⟨h1, h2, h3, h4, h5⟩ => ?_, id⟩
  refine ⟨?_, ?_, h3, h4, hl h5⟩
  · rw [State.setTrunk_trunk, hr]; exact h1
  · rw [State.setTrunk_trunk, ht]; exact h2

/-- The agent but for the coupler address, where queue and pending setting stay in their ranges. -/
theorem State.still_setAgent {s : State} {a : Agent} (hc : a.coupler = s.agent.coupler)
    (hq : s.agent.queue.length ≤ 2 → a.queue.length ≤ 2)
    (hp : ∀ p, a.pendingSetting = some p → s.TrunkInRange → inRange 1 15 p.settings.gapLimit) :
    s.Still (s.setAgent a) := by
  refine ⟨fun hs => ?_, fun _ => .refl _, .refl _, fun h => ?_, id⟩
  · unfold State.MapSound at *
    rw [State.setAgent_agent, hc]
    exact hs
  · have hall := h
    obtain ⟨h1, h2, h3, h4, h5⟩ := h
    exact ⟨h1, h2, fun p he => hp p he hall, hq h4, h5⟩

/-- What the model holds beside the blocks is in no invariant. -/
theorem State.still_model (s : State) (q : List Instr) (k : Nat) : s.Still { s with pending := q, choices := k } :=
  ⟨id, fun _ => .refl _, .refl _, id, id⟩

end Sys2Proof.Machine
end

section
/-! PROOFS. The validation of COMMIT, window by window (R30), and what it has to do with the soundness of ACTIVE (R23). -/

namespace Sys2Proof.Machine

/-! ## Windows in arithmetic (R19, R30) -/

/-- Two intervals that begin below each other's end share a number. -/
theorem interval_overlap_iff {x y k l : Nat} (hk : 0 < k) (hl : 0 < l) :
    (x < y + l ∧ y < x + k) ↔ ∃ a, (x ≤ a ∧ a < x + k) ∧ (y ≤ a ∧ a < y + l) := by
  constructor
  · intro h
    exact ⟨max x y, by omega⟩
  · rintro ⟨a, h⟩
    omega

theorem RouteEntry.aligned_iff (e : RouteEntry) : e.aligned = true ↔
    e.trunkBase.toNat % 2 ^ e.sizeCode.val = 0 ∧ e.localBase.toNat % 2 ^ e.sizeCode.val = 0 := decide_eq_true_iff

theorem RouteEntry.holdsLocal_iff (e : RouteEntry) (a : Byte) :
    e.holdsLocal a = true ↔ e.localBase.toNat ≤ a.toNat ∧ a.toNat < e.localBase.toNat + 2 ^ e.sizeCode.val :=
  decide_eq_true_iff

theorem RouteEntry.trunkOverlap_iff (e f : RouteEntry) : e.trunkOverlap f = true ↔ ∃ a,
    (e.trunkBase.toNat ≤ a ∧ a < e.trunkBase.toNat + 2 ^ e.sizeCode.val) ∧
      (f.trunkBase.toNat ≤ a ∧ a < f.trunkBase.toNat + 2 ^ f.sizeCode.val) := by
  rw [← interval_overlap_iff (Nat.two_pow_pos _) (Nat.two_pow_pos _)]
  exact decide_eq_true_iff

theorem RouteEntry.localOverlap_iff (e f : RouteEntry) : e.localOverlap f = true ↔ e.branch = f.branch ∧ ∃ a,
    (e.localBase.toNat ≤ a ∧ a < e.localBase.toNat + 2 ^ e.sizeCode.val) ∧
      (f.localBase.toNat ≤ a ∧ a < f.localBase.toNat + 2 ^ f.sizeCode.val) := by
  rw [← interval_overlap_iff (Nat.two_pow_pos _) (Nat.two_pow_pos _), RouteEntry.localOverlap, Bool.and_eq_true,
    decide_eq_true_iff, decide_eq_true_iff]
  rfl

theorem RouteEntry.trunkOverlap_comm (e f : RouteEntry) : e.trunkOverlap f = f.trunkOverlap e := by
  rw [RouteEntry.trunkOverlap, RouteEntry.trunkOverlap, decide_eq_decide]
  exact and_comm

theorem RouteEntry.localOverlap_comm (e f : RouteEntry) : e.localOverlap f = f.localOverlap e := by
  rw [Bool.eq_iff_iff, RouteEntry.localOverlap_iff, RouteEntry.localOverlap_iff]
  exact and_congr eq_comm (exists_congr fun _ => and_comm)

theorem RouteEntry.reserved_iff (e : RouteEntry) (coupler : Byte) : e.reserved coupler = true ↔
    e.holdsTrunk 0x00 = true ∨ e.holdsTrunk 0xFF = true ∨ e.holdsTrunk coupler = true ∨ e.holdsLocal 0x00 = true ∨
      e.holdsLocal 0xFF = true := by
  simp [RouteEntry.reserved, or_assoc]

/-! ## The checks of one entry (R30) -/

/-- The entry overlaps no valid entry below it. -/
def RouteEntry.Clear (e : RouteEntry) (lower : List RouteEntry) : Prop :=
  ∀ f ∈ lower, f.valid = true → e.trunkOverlap f = false ∧ e.localOverlap f = false

theorem lowestIndex_eq_none_iff (test : RouteEntry → Bool) (lower : List RouteEntry) :
    lowestIndex test lower = none ↔ ∀ f ∈ lower, f.valid = true → test f = false := by
  simp [lowestIndex]

theorem lowestIndex_eq_some_iff (test : RouteEntry → Bool) (lower : List RouteEntry) (i : Nat) :
    lowestIndex test lower = some i ↔ ∃ h : i < lower.length, lower[i].valid = true ∧ test lower[i] = true ∧
      ∀ (k : Nat) (hk : k < i), lower[k].valid = true → test lower[k] = false := by
  simp [lowestIndex, List.findIdx?_eq_some_iff_getElem, and_assoc]

/-- The first check that fails names its failure, at the entry's own index (R30). -/
inductive RouteEntry.Fails (e : RouteEntry) (coupler : Byte) (lower : List RouteEntry) : Rejection → Prop
  | misaligned : e.aligned = false → Fails e coupler lower ⟨lower.length, .misaligned, 0xFF⟩
  | reserved : e.aligned = true → e.reserved coupler = true → Fails e coupler lower ⟨lower.length, .reservedAddress, 0xFF⟩
  | trunk (i : Nat) : e.aligned = true → e.reserved coupler = false → lowestIndex e.trunkOverlap lower = some i →
      Fails e coupler lower ⟨lower.length, .trunkOverlap, byteOf i⟩
  | branch (i : Nat) : e.aligned = true → e.reserved coupler = false → lowestIndex e.trunkOverlap lower = none →
      lowestIndex e.localOverlap lower = some i → Fails e coupler lower ⟨lower.length, .localOverlap, byteOf i⟩

theorem RouteEntry.fails_of_check {e : RouteEntry} {coupler : Byte} {lower : List RouteEntry} {r : Rejection}
    (h : e.check coupler lower = some r) : e.Fails coupler lower r := by
  unfold RouteEntry.check at h
  split at h
  case isTrue hal => cases h; exact .misaligned (by simpa using hal)
  case isFalse hal =>
    have haligned : e.aligned = true := by simpa using hal
    split at h
    case isTrue hres => cases h; exact .reserved haligned hres
    case isFalse hres =>
      have hclear : e.reserved coupler = false := by simpa using hres
      split at h
      case h_1 i hi => cases h; exact .trunk i haligned hclear hi
      case h_2 hnone =>
        split at h
        case h_1 i hi => cases h; exact .branch i haligned hclear hnone hi
        case h_2 => cases h

theorem RouteEntry.check_eq_none_iff (e : RouteEntry) (coupler : Byte) (lower : List RouteEntry) :
    e.check coupler lower = none ↔ e.aligned = true ∧ e.reserved coupler = false ∧ e.Clear lower := by
  constructor
  · intro h
    unfold RouteEntry.check at h
    split at h
    case isTrue => cases h
    case isFalse hal =>
      split at h
      case isTrue => cases h
      case isFalse hres =>
        split at h
        case h_1 => cases h
        case h_2 htrunk =>
          split at h
          case h_1 => cases h
          case h_2 hlocal =>
            refine ⟨by simpa using hal, by simpa using hres, fun f hf hv => ⟨?_, ?_⟩⟩
            · exact (lowestIndex_eq_none_iff _ _).mp htrunk f hf hv
            · exact (lowestIndex_eq_none_iff _ _).mp hlocal f hf hv
  · rintro ⟨haligned, hres, hclear⟩
    have htrunk : lowestIndex e.trunkOverlap lower = none :=
      (lowestIndex_eq_none_iff _ _).mpr fun f hf hv => (hclear f hf hv).1
    have hlocal : lowestIndex e.localOverlap lower = none :=
      (lowestIndex_eq_none_iff _ _).mpr fun f hf hv => (hclear f hf hv).2
    simp [RouteEntry.check, haligned, hres, htrunk, hlocal]

/-! ## The entries in ascending order (R30) -/

/-- An entry that COMMIT lets pass: empty, or without a failure against the entries below it. -/
def RouteEntry.Passes (e : RouteEntry) (coupler : Byte) (lower : List RouteEntry) : Prop :=
  e.valid = true → e.check coupler lower = none

theorem validateFrom_eq_none_iff (coupler : Byte) (rest : List RouteEntry) : ∀ lower,
    validateFrom coupler lower rest = none ↔
      ∀ (i : Nat) (h : i < rest.length), rest[i].Passes coupler (lower ++ rest.take i) := by
  induction rest with
  | nil => simp [validateFrom]
  | cons e rest ih =>
    intro lower
    have hhead : (if e.valid = true then e.check coupler lower else none) = none ↔ e.Passes coupler lower := by
      simp [RouteEntry.Passes]
    have hsplit : validateFrom coupler lower (e :: rest) = none ↔
        e.Passes coupler lower ∧ validateFrom coupler (lower ++ [e]) rest = none := by
      rw [← hhead, validateFrom]
      split
      case h_1 r hr => simp [hr]
      case h_2 hr => simp [hr]
    rw [hsplit, ih]
    constructor
    · rintro ⟨he, hrest⟩ i hi
      cases i with
      | zero => simpa using he
      | succ i => simpa using hrest i (by simpa using hi)
    · intro h
      refine ⟨?_, fun i hi => ?_⟩
      · have h0 := h 0 (by simp)
        rw [List.take_zero, List.append_nil] at h0
        exact h0
      · have hnext := h (i + 1) (by simpa using hi)
        rw [List.take_succ_cons, List.append_cons] at hnext
        exact hnext

theorem validateFrom_eq_some {coupler : Byte} {rest : List RouteEntry} : ∀ {lower : List RouteEntry} {r : Rejection},
    validateFrom coupler lower rest = some r → ∃ (i : Nat) (h : i < rest.length), rest[i].valid = true ∧
      rest[i].check coupler (lower ++ rest.take i) = some r ∧
      ∀ (j : Nat) (hj : j < i), rest[j].Passes coupler (lower ++ rest.take j) := by
  induction rest with
  | nil => intro lower r h; cases h
  | cons e rest ih =>
    intro lower r h
    rw [validateFrom] at h
    split at h
    case h_1 r' hr =>
      cases h
      by_cases hv : e.valid = true
      · refine ⟨0, by simp, hv, ?_, fun j hj => absurd hj (Nat.not_lt_zero j)⟩
        rw [if_pos hv] at hr
        simpa using hr
      · rw [if_neg hv] at hr; cases hr
    case h_2 hr =>
      obtain ⟨i, hi, hvalid, hcheck, hbefore⟩ := ih h
      refine ⟨i + 1, by simpa using hi, hvalid, by simpa using hcheck, fun j hj => ?_⟩
      cases j with
      | zero => simpa [RouteEntry.Passes] using hr
      | succ j => simpa using hbefore j (by omega)

/-! ## The working table -/

/-- Entry i of WORKING passes: if valid it is aligned, holds no reserved address and overlaps no valid entry below it. -/
def StationMap.PassesAt (m : StationMap) (coupler : Byte) (i : Fin 16) : Prop :=
  (m.working.get i).valid = true →
    (m.working.get i).aligned = true ∧ (m.working.get i).reserved coupler = false ∧
    ∀ j : Fin 16, j < i → (m.working.get j).valid = true →
      (m.working.get i).trunkOverlap (m.working.get j) = false ∧ (m.working.get i).localOverlap (m.working.get j) = false

theorem Table.getElem_toList (t : Table) (i : Nat) (h : i < t.toList.length) :
    t.toList[i] = t.get ⟨i, by simpa using h⟩ := by
  simp [Vector.get_eq_getElem]

theorem Table.mem_take_iff (t : Table) (i : Nat) (hi : i < 16) (e : RouteEntry) :
    e ∈ t.toList.take i ↔ ∃ j : Fin 16, j.val < i ∧ t.get j = e := by
  rw [List.mem_take_iff_getElem]
  constructor
  · rintro ⟨j, hj, rfl⟩
    have hj' : j < i ∧ j < 16 := by simpa using hj
    exact ⟨⟨j, hj'.2⟩, hj'.1, (Table.getElem_toList t j _).symm⟩
  · rintro ⟨j, hj, rfl⟩
    exact ⟨j, by simp only [Vector.length_toList]; omega, Table.getElem_toList t j _⟩

theorem StationMap.passes_iff (m : StationMap) (coupler : Byte) (i : Fin 16) :
    (m.working.get i).Passes coupler (m.working.toList.take i) ↔ m.PassesAt coupler i := by
  refine forall_congr' fun _ => ?_
  rw [RouteEntry.check_eq_none_iff]
  refine and_congr_right fun _ => and_congr_right fun _ => ?_
  simp only [RouteEntry.Clear, Table.mem_take_iff m.working i.val i.isLt]
  exact ⟨fun h j hj => h _ ⟨j, hj, rfl⟩, fun h f ⟨j, hj, he⟩ => he ▸ h j hj⟩

theorem StationMap.validate_eq_none_iff (m : StationMap) (coupler : Byte) :
    m.validate coupler = none ↔ ∀ i, m.PassesAt coupler i := by
  rw [StationMap.validate, validateFrom_eq_none_iff]
  simp only [← StationMap.passes_iff, List.nil_append, Table.getElem_toList]
  exact ⟨fun h i => h i.val (by simp), fun h i hi => h ⟨i, by simpa using hi⟩⟩

/-- The rejection is the first failure of the first entry that does not pass. -/
theorem StationMap.fails_of_validate {m : StationMap} {coupler : Byte} {r : Rejection} (h : m.validate coupler = some r) :
    ∃ i : Fin 16, (m.working.get i).valid = true ∧ (m.working.get i).Fails coupler (m.working.toList.take i) r ∧
      ¬ m.PassesAt coupler i ∧ ∀ j : Fin 16, j < i → m.PassesAt coupler j := by
  obtain ⟨i, hi, hvalid, hcheck, hbefore⟩ := validateFrom_eq_some h
  simp only [List.nil_append, Table.getElem_toList] at hvalid hcheck hbefore
  have hi' : i < 16 := by simpa using hi
  refine ⟨⟨i, hi'⟩, hvalid, RouteEntry.fails_of_check hcheck, ?_, fun j hj => ?_⟩
  · rw [← StationMap.passes_iff]
    exact fun hp => by rw [hp hvalid] at hcheck; cases hcheck
  · exact (StationMap.passes_iff m coupler j).mp (hbefore j hj)

/-- The lowest index below entry i that meets a test, in the table. -/
theorem StationMap.lowestIndex_take {m : StationMap} {test : RouteEntry → Bool} {i : Fin 16} {k : Nat}
    (h : lowestIndex test (m.working.toList.take i) = some k) : ∃ j : Fin 16, j.val = k ∧ j < i ∧
      (m.working.get j).valid = true ∧ test (m.working.get j) = true ∧
      ∀ l : Fin 16, l < j → (m.working.get l).valid = true → test (m.working.get l) = false := by
  obtain ⟨hk, hvalid, htest, hbefore⟩ := (lowestIndex_eq_some_iff _ _ _).mp h
  have hlen : k < i.val := by simpa using hk
  simp only [List.getElem_take, Table.getElem_toList] at hvalid htest hbefore
  exact ⟨⟨k, hlen.trans i.isLt⟩, rfl, hlen, hvalid, htest, fun l hl => hbefore l.val hl⟩

theorem StationMap.lowestIndex_take_none {m : StationMap} {test : RouteEntry → Bool} {i : Fin 16}
    (h : lowestIndex test (m.working.toList.take i) = none) :
    ∀ l : Fin 16, l < i → (m.working.get l).valid = true → test (m.working.get l) = false :=
  fun l hl => (lowestIndex_eq_none_iff _ _).mp h _ ((Table.mem_take_iff _ _ i.isLt _).mpr ⟨l, hl, rfl⟩)

/-! ## The obligation -/

/-- Settles O48: validation goes through the entries by induction, each check through its own equivalence in arithmetic. -/
theorem validationFindsFirstFailure : Obligations.ValidationFindsFirstFailure := by
  unfold Obligations.ValidationFindsFirstFailure
  refine ⟨fun e f coupler => ?windows, rfl, fun m coupler => ⟨m.validate_eq_none_iff coupler, fun r hr => ?first⟩⟩
  case windows =>
    refine ⟨e.aligned_iff, ?_, e.trunkOverlap_iff f, e.localOverlap_iff f⟩
    rw [RouteEntry.reserved_iff]
    simp only [RouteEntry.holdsTrunk_iff, RouteEntry.holdsLocal_iff]
    rfl
  case first =>
    obtain ⟨i, hvalid, hfails, hnot, hbefore⟩ := StationMap.fails_of_validate hr
    have hlen : (m.working.toList.take i).length = i.val := by simp [i.isLt.le]
    refine ⟨i, ?index, hvalid, hnot, hbefore, ?checks⟩
    case index => cases hfails <;> exact hlen
    case checks =>
      cases hfails with
      | misaligned hal => simp [hal]
      | reserved hal hres => simp [hal, hres]
      | trunk k hal hres hk =>
        obtain ⟨j, rfl, hji, hj, htest, hlow⟩ := StationMap.lowestIndex_take hk
        exact ⟨by simp [hal], by simp [hal, hres], by simp, fun _ => ⟨j, hji, rfl, hj, htest, hlow⟩, by simp⟩
      | branch k hal hres hnone hk =>
        obtain ⟨j, rfl, hji, hj, htest, hlow⟩ := StationMap.lowestIndex_take hk
        exact ⟨by simp [hal], by simp [hal, hres], by simp, by simp,
          fun _ => ⟨StationMap.lowestIndex_take_none hnone, j, hji, rfl, hj, htest, hlow⟩⟩

end Sys2Proof.Machine
end

section
/-! PROOFS. Every shared operation leaves the part still: no line, admission or transmission changes, a CLOSED branch takes no
traffic, every range is kept and no counter falls. One lemma per operation, in the order of their definitions. -/

namespace Sys2Proof.Machine

/-! ## The pool (R88 to R96) -/

theorem State.still_setBuffer (n : BufferId) (x : Buffer) (s : State) : s.Still (State.setBuffer n x s) := still_setPool id
theorem State.still_claim (v : Byte) (n : BufferId) (r : List BufferId) (s : State) : s.Still (s.claim v n r) :=
  still_setPool id
theorem State.still_free (n : BufferId) (s : State) : s.Still (s.free n) := still_setPool id
theorem State.still_writeChar (n : BufferId) (v : Byte) (s : State) : s.Still (s.writeChar n v) := still_setPool id
theorem State.still_completeBuffer (n : BufferId) (k : Nat) (s : State) : s.Still (s.completeBuffer n k) := still_setPool id
theorem State.still_buildFault (n : BufferId) (a : Byte) (q : Sequence) (r : FaultReason) (b k : Nat) (s : State) :
    s.Still (s.buildFault n a q r b k) := still_setPool id
theorem State.still_rewrite (n : BufferId) (a : Byte) (s : State) : s.Still (s.rewrite n a) := still_setPool id
theorem State.still_reserve (s : State) : s.Still s.reserve := still_setPool id
theorem State.still_unreserve (s : State) : s.Still s.unreserve := still_setPool id

/-- The waiting set follows from an event (R97). -/
theorem State.still_updateWaiting (s : State) : s.Still s.updateWaiting := by
  refine still_setPool fun h => List.Nodup.append (h.filter _) (Branch.all_nodup.filter _) fun b hstay hjoin => ?_
  have hnot := (List.mem_filter.mp hjoin).2
  obtain ⟨hmem, heligible⟩ := List.mem_filter.mp hstay
  simp [hmem, heligible] at hnot

theorem State.still_free? (n : Option BufferId) (s : State) : s.Still (s.free? n) := by
  cases n with
  | none => exact .refl s
  | some n => exact s.still_free n

theorem State.still_releaseRef (n : BufferId) (s : State) : s.Still (s.releaseRef n) := by
  unfold State.releaseRef
  dsimp only
  split
  · exact s.still_free n
  · exact s.still_setBuffer n _

theorem State.still_releaseRef? (n : Option BufferId) (s : State) : s.Still (s.releaseRef? n) := by
  cases n with
  | none => exact .refl s
  | some n => exact s.still_releaseRef n

/-- Operations that leave the part still, one after another over a list. -/
theorem State.still_foldl {α : Type} {f : State → α → State} (h : ∀ (s : State) x, s.Still (f s x)) (l : List α) :
    ∀ s : State, s.Still (l.foldl f s) := by
  induction l with
  | nil => exact fun s => .refl s
  | cons x l ih => exact fun s => (h s x).trans (ih (f s x))

/-! ## Counts (R199 to R204) -/

theorem State.still_countTrunk (c : TrunkCounter) (s : State) : s.Still (s.countTrunk c) :=
  still_setTrunk (CounterBank.risesTo_count _ _ _) rfl rfl id

theorem State.still_countBranch (b : Branch) (c : BranchCounter) (s : State) : s.Still (s.countBranch b c) :=
  still_onBranch (BranchPort.still_count _ c)

theorem State.still_countPort (p : Port) (c : PortCounter) (s : State) : s.Still (s.countPort p c) := by
  cases p with
  | trunk => exact s.still_countTrunk _
  | branch b => exact s.still_countBranch b _

theorem State.still_countNoise (p : Port) (noisy : Bool) (s : State) : s.Still (s.countNoise p noisy) := by
  cases noisy with
  | false => exact .refl s
  | true => exact s.still_countPort p _

/-! ## The trunk side (R135 to R143) -/

theorem State.still_startIfIdle (s : State) : s.Still s.startIfIdle := by
  rw [State.startIfIdle_eq]
  exact still_setTrunk (.refl _) rfl rfl id

theorem State.still_appendUpstream (i : UpItem) (s : State) : s.Still (s.appendUpstream i) := by
  rw [State.appendUpstream_eq]
  exact still_setTrunk (.refl _) rfl rfl id

theorem TrunkPort.takeUpReceive_same (ls : LineSettings) (t : TrunkPort) :
    t.takeUpReceive ls = { t with rxSettings := ls, line := (t.takeUpReceive ls).line } := by
  unfold TrunkPort.takeUpReceive
  dsimp only
  split <;> rfl

/-- The receive half at rest takes up a pending setting, and none is pending any more (R142). -/
theorem State.still_takeUp {s : State} {p : PendingSetting} (hp : s.agent.pendingSetting = some p) :
    s.Still ((s.onTrunk (TrunkPort.takeUpReceive p.settings)).setAgent { s.agent with pendingSetting := none }) := by
  refine ⟨id, fun _ => .refl _, ?_, fun ⟨_, htx, hpend, hq, hr⟩ => ?_, id⟩
  · rw [State.setAgent_trunk, State.onTrunk_trunk, TrunkPort.takeUpReceive_same]
    exact .refl _
  · unfold State.TrunkInRange
    rw [State.setAgent_trunk, State.onTrunk_trunk, TrunkPort.takeUpReceive_same]
    exact ⟨hpend p hp, htx, fun _ h => (by cases h), hq, hr⟩

/-- The transmit half takes up a pending setting (R142). -/
theorem State.still_takeUpTransmit {s : State} {p : PendingSetting} (hp : s.agent.pendingSetting = some p) :
    s.Still (s.onTrunk fun t => { t with txSettings := p.settings }) :=
  ⟨id, fun _ => .refl _, .refl _, fun ⟨hrx, _, hpend, hq, hr⟩ => ⟨hrx, hpend p hp, hpend, hq, hr⟩, id⟩

theorem State.still_receiveAtRest (s : State) : s.Still s.receiveAtRest := by
  unfold State.receiveAtRest
  split
  case h_1 => exact .refl s
  case h_2 p hp =>
    split
    case h_1 => exact .refl s
    case h_2 =>
      split
      case isTrue => exact still_takeUp hp
      case isFalse => exact .refl s

theorem State.still_settingTakesEffect (s : State) : s.Still s.settingTakesEffect := by
  unfold State.settingTakesEffect
  split
  case h_1 => exact .refl s
  case h_2 p hp =>
    split
    case h_1 => exact .refl s
    case h_2 =>
      dsimp only
      split
      case isTrue => exact (still_takeUpTransmit hp).trans (still_takeUp (by simpa using hp))
      case isFalse =>
        refine (still_takeUpTransmit hp).trans (still_setAgent rfl id ?_)
        rintro q he ⟨-, -, hpend, -⟩
        cases he
        exact hpend p (by simpa using hp)

theorem State.still_settingEnds (s : State) : s.Still s.settingEnds :=
  s.still_settingTakesEffect.trans (State.still_receiveAtRest _)

/-! ## The agent (R71, R171) -/

theorem State.still_beginCommand (s : State) : s.Still s.beginCommand := by
  unfold State.beginCommand
  split <;> exact still_setAgent rfl id fun p hp h => h.2.2.1 p hp

theorem State.still_appendCommand {s : State} (h : s.agent.queue.length < 2) (n : BufferId) : s.Still (s.appendCommand n) := by
  by_cases hq : s.agent.queue = []
  · rw [State.appendCommand_of_empty hq]
    exact still_setAgent rfl (fun _ => by simp [hq]) fun p hp h => h.2.2.1 p hp
  · rw [State.appendCommand_of_ne_nil hq]
    exact still_setAgent rfl (fun _ => by simp only [List.length_append, List.length_singleton]; omega)
      fun p hp h => h.2.2.1 p hp

theorem State.still_nextCommand (s : State) : s.Still s.nextCommand := by
  refine State.Still.trans (t := s.setAgent { s.agent with queue := s.agent.queue.drop 1, responseVoid := false })
    (still_setAgent rfl (fun h => ?_) fun p hp h => h.2.2.1 p hp) (State.still_beginCommand _)
  simp only [List.length_drop]
  omega

theorem State.still_leavePending (c : Carry) (s : State) : s.Still (s.leavePending c) := by
  cases c with
  | nothing => exact .refl s
  | setting => exact .refl s
  | restart => exact still_setAgent rfl id fun p hp h => h.2.2.1 p hp

theorem State.still_respond (n : BufferId) (v : Verdict) (c : Carry) (s : State) : s.Still (s.respond n v c) :=
  (s.still_setBuffer n _).trans (State.still_appendUpstream _ _)

/-! ## Slots (R44 to R66) -/

theorem State.still_slotClosed (b : Branch) (l : Option LastClosed) (s : State) :
    s.Still (s.onBranch b fun p => { p with slot := none, lastClosed := l }) :=
  still_onBranch (BranchPort.still_slot_none _ l)

theorem State.still_closeSlot (b : Branch) (x : Slot) (r : FaultReason) (s : State) : s.Still (s.closeSlot b x r) := by
  have hfault := (s.still_buildFault x.request x.trunkAddress x.seq r b.number x.attempts).trans
    (State.still_appendUpstream (.frame x.request .nothing) _)
  unfold State.closeSlot
  dsimp only
  split
  case isTrue =>
    exact ((hfault.trans (State.still_unreserve _)).trans (State.still_countBranch b _ _)).trans (State.still_slotClosed b _ _)
  case isFalse => exact (hfault.trans (State.still_countBranch b _ _)).trans (State.still_slotClosed b _ _)

/-- An open slot goes over to another phase. -/
theorem State.still_setSlot {s : State} {b : Branch} {x : Slot} (h : (s.branch b).slot = some x) (y : Option Slot) :
    s.Still (s.setSlot b y) := still_onBranch (BranchPort.still_slot_some h y)

theorem State.still_attemptFailed {s : State} {b : Branch} {x : Slot} (h : (s.branch b).slot = some x) (y : Slot)
    (f : Failure) : s.Still (s.attemptFailed b y f) := by
  unfold State.attemptFailed
  dsimp only
  split
  case isTrue =>
    split
    case isTrue => exact still_setSlot h _
    case isFalse => exact s.still_reserve.trans (still_setSlot (s := s.reserve) h _)
  case isFalse => exact s.still_closeSlot b _ _

theorem State.still_convert {s : State} {b : Branch} {x : Slot} (h : (s.branch b).slot = some x) (y : Slot) (v : Byte)
    (n : BufferId) (rest : List BufferId) : s.Still (s.convert b y v n rest) :=
  ((s.still_claim v n rest).trans (State.still_unreserve _)).trans (still_setSlot (s := (s.claim v n rest).unreserve) h _)

theorem State.still_acceptReply (b : Branch) (x : Slot) (n : BufferId) (s : State) : s.Still (s.acceptReply b x n) :=
  ((((s.still_rewrite n _).trans (State.still_appendUpstream _ _)).trans (State.still_free x.request _)).trans
    (State.still_countBranch b .replies _)).trans (State.still_slotClosed b _ _)

theorem State.countBranch_branch_slot (b d : Branch) (c : BranchCounter) (s : State) :
    ((s.countBranch b c).branch d).slot = (s.branch d).slot := by
  by_cases h : d = b
  · subst h; rw [State.countBranch_same]; rfl
  · rw [State.countBranch_of_ne _ _ h]

theorem State.still_rejectReply {s : State} {b : Branch} {x : Slot} (h : (s.branch b).slot = some x) (y : Slot) (n : BufferId)
    (frozen : Option Nat) (c : BranchCounter) : s.Still (s.rejectReply b y n frozen c) := by
  have hback := ((s.still_countBranch b c).trans (State.still_free n _)).trans (State.still_reserve _)
  have hslot : (((s.countBranch b c).free n).reserve.branch b).slot = some x :=
    (s.countBranch_branch_slot b b c).trans h
  unfold State.rejectReply
  cases frozen with
  | none => exact hback.trans (still_setSlot hslot _)
  | some t => exact hback.trans (still_setSlot hslot _)

theorem State.still_judgeReply (b : Branch) (n : BufferId) (s : State) : s.Still (s.judgeReply b n) := by
  cases hslot : (s.branch b).slot with
  | none => simp only [State.judgeReply, hslot]; exact s.still_free n
  | some x =>
    cases hphase : x.phase with
    | receiving m frozen =>
      by_cases hanswer : (s.desc n).kind.answers
      · rw [State.judgeReply_of_answers hslot hphase n hanswer]
        split
        · exact s.still_acceptReply b x n
        · exact still_rejectReply hslot x n frozen _
      · rw [State.judgeReply_of_not_answers hslot hphase n hanswer]
        exact still_rejectReply hslot x n frozen _
    | ready => simp only [State.judgeReply, hslot, hphase]; exact s.still_free n
    | sending => simp only [State.judgeReply, hslot, hphase]; exact s.still_free n
    | waiting t => simp only [State.judgeReply, hslot, hphase]; exact s.still_free n

theorem State.still_replyAbandoned (b : Branch) (s : State) : s.Still (s.replyAbandoned b) := by
  unfold State.replyAbandoned
  split
  case h_1 => exact .refl s
  case h_2 x hslot =>
    split
    case h_1 =>
      exact (s.still_countBranch b .badReply).trans (still_attemptFailed ((s.countBranch_branch_slot b b _).trans hslot) x _)
    all_goals exact .refl s

theorem State.still_classify (b : Branch) (a : Byte) (k : Kind) (q : Sequence) (s : State) : s.Still (s.classify b a k q) :=
  s.still_countBranch b _

theorem State.still_breakSlot (b : Branch) (s : State) : s.Still (s.breakSlot b) := by
  unfold State.breakSlot
  split
  case h_1 => exact .refl s
  case h_2 x _ =>
    split
    case h_1 =>
      split
      · exact s.still_closeSlot b x _
      · exact .refl s
    case h_2 => exact .refl s
    all_goals exact s.still_closeSlot b x _

theorem State.still_abortSlot (b : Branch) (s : State) : s.Still (s.abortSlot b) := by
  unfold State.abortSlot
  split
  case h_1 => exact .refl s
  case h_2 x _ => exact (s.still_free? _).trans (State.still_closeSlot b x _ _)

/-- A grant opens a slot on a branch that is not CLOSED (R97, R98). -/
theorem State.still_grantTo {s : State} {b : Branch} (h : (s.branch b).admission ≠ .closed) : s.Still (s.grantTo b) := by
  cases hqueue : (s.branch b).queue with
  | nil => simp only [State.grantTo, hqueue]; exact .refl s
  | cons n rest =>
    cases hroute : (s.desc n).route with
    | none => simp only [State.grantTo, hqueue, hroute]; exact .refl s
    | some r =>
      rw [State.grantTo_of_routed hqueue hroute]
      refine (s.still_reserve).trans (State.still_onBranch (f := fun p => { p with
        queue := rest, slot := some (Slot.opened n (s.desc n) r) }) ?_)
      refine { BranchPort.Still.refl (s.branch b) with
        inRange := fun ⟨hg, ht, hl, hv, hlen⟩ => ⟨hg, ht, hl, hv, ?_⟩
        queue := fun hc => absurd hc h
        slot := fun _ hc => absurd hc h }
      exact (Nat.le_succ rest.length).trans (hqueue ▸ hlen : (n :: rest).length ≤ 16)

theorem State.eligible_admission {s : State} {b : Branch} (h : s.eligible b = true) : (s.branch b).admission ≠ .closed := by
  simp only [State.eligible, Bool.and_eq_true, Bool.not_eq_true', beq_eq_false_iff_ne] at h
  exact h.1.2

/-- The arbiter's choice is a waiting branch that meets the conditions (R98). -/
theorem State.eligible_of_grantee {s : State} {b : Branch} (h : s.grantee = some b) : s.eligible b = true := by
  have hne : s.pool.waiting.filter s.eligible ≠ [] := fun he => by simp [State.grantee, he] at h
  obtain ⟨c, hc, before, after, hsplit, -⟩ := State.grantee_firstOfHighest hne
  obtain rfl : c = b := Option.some.inj (hc.symm.trans h)
  have hmem : c ∈ s.pool.waiting.filter s.eligible := by simp [hsplit]
  exact (List.mem_filter.mp hmem).2

theorem State.still_takeGrant (s : State) : s.Still s.takeGrant := by
  unfold State.takeGrant
  split
  case h_1 => exact .refl s
  case h_2 b hb => exact still_grantTo (eligible_admission (eligible_of_grantee hb))

/-! ## The router (R70 to R85) -/

theorem State.still_discard (n : BufferId) (s : State) : s.Still (s.discard n) :=
  (s.still_countTrunk _).trans (State.still_free n _)

theorem State.still_wrongKind (n : BufferId) (s : State) : s.Still (s.wrongKind n) :=
  (s.still_countTrunk _).trans (State.still_free n _)

theorem State.still_routerFault (n : BufferId) (r : FaultReason) (b : Nat) (s : State) : s.Still (s.routerFault n r b) :=
  ((s.still_countTrunk .refused).trans (State.still_buildFault n _ _ r b 0 _)).trans (State.still_appendUpstream _ _)

theorem State.still_refuse (n : BufferId) (r : FaultReason) (b : Nat) (s : State) : s.Still (s.refuse n r b) := by
  unfold State.refuse
  split
  · exact s.still_routerFault n r b
  · exact s.still_discard n

theorem State.still_routeToAgent (n : BufferId) (s : State) : s.Still (s.routeToAgent n) := by
  unfold State.routeToAgent
  split
  case isTrue h => exact still_appendCommand h n
  case isFalse => exact s.still_refuse n _ _

theorem BranchPort.takesBroadcast_iff (p : BranchPort) :
    p.takesBroadcast = true ↔ p.admission = .opened ∧ p.broadcast = true ∧ p.queue.length < p.queueLimit := by
  simp [BranchPort.takesBroadcast, and_assoc]

theorem BranchPort.still_broadcast? (n : BufferId) (p : BranchPort) : p.Still (p.broadcast? n) := by
  unfold BranchPort.broadcast?
  split
  case isTrue h =>
    obtain ⟨hopen, -, hroom⟩ := p.takesBroadcast_iff.mp h
    exact BranchPort.still_append n (by simp [hopen]) hroom
  case isFalse => exact p.still_count _

theorem State.still_routeBroadcast (n : BufferId) (s : State) : s.Still (s.routeBroadcast n) := by
  have hall : s.Still { s with branches := s.branches.map (BranchPort.broadcast? n) } :=
    over_branches (fun _ => .refl _) (BranchPort.still_broadcast? n)
  unfold State.routeBroadcast
  dsimp only
  split
  · exact hall.trans (State.still_discard n _)
  · exact hall.trans (State.still_setBuffer n _ _)

theorem State.still_refuseAtBranch (n : BufferId) (r : FaultReason) (b : Branch) (s : State) :
    s.Still (s.refuseAtBranch n r b) := by
  rw [State.refuseAtBranch_eq]
  refine State.Still.trans ?_ (State.still_refuse n r _ _)
  split
  · exact .refl s
  · exact s.still_countBranch b _

theorem State.still_routeStation (n : BufferId) (a : Byte) (s : State) : s.Still (s.routeStation n a) := by
  unfold State.routeStation
  split
  case h_1 => exact (s.still_countTrunk _).trans (State.still_refuse n _ _ _)
  case h_2 e _ =>
    split
    case isTrue => exact s.still_refuse n _ _
    case isFalse =>
      split
      case isTrue => exact s.still_refuseAtBranch n _ _
      case isFalse hopen =>
        split
        case isTrue => exact s.still_refuseAtBranch n _ _
        case isFalse hroom =>
          have hopened : (s.branch e.branch).admission = .opened := by simpa using hopen
          rw [State.appendToBranch_eq]
          refine (s.still_setBuffer n _).trans (still_onBranch (f := fun p => { p with queue := p.queue ++ [n] }) ?_)
          exact BranchPort.still_append n (by simp [hopened]) (Nat.lt_of_not_le hroom)

theorem State.still_routeStored (n : BufferId) (s : State) : s.Still (s.routeStored n) := by
  unfold State.routeStored
  dsimp only
  split
  · exact s.still_wrongKind n
  · split
    · split
      · exact s.still_routeBroadcast n
      · exact s.still_wrongKind n
    · split
      · exact s.still_wrongKind n
      · split
        · exact s.still_routeToAgent n
        · exact s.still_routeStation n _

theorem State.still_routeUnstored (a : Byte) (k : Kind) (q : Sequence) (s : State) : s.Still (s.routeUnstored a k q) := by
  unfold State.routeUnstored State.storeRefusal
  split
  · split
    case isTrue h =>
      refine State.Still.trans (t := s.setTrunk { s.trunk with refusals := s.trunk.refusals ++ [⟨a, q⟩] })
        (still_setTrunk (.refl _) rfl rfl fun _ => ?_) (State.still_appendUpstream _ _)
      have hlt : s.trunk.refusals.length < 4 := h
      simp only [List.length_append, List.length_singleton]
      omega
    case isFalse => exact s.still_countTrunk _
  · exact .refl s

/-! ## Frames in assembly (R7 to R14) -/

theorem State.still_onReceiver (p : Port) (f : Receiver → Receiver) (s : State) : s.Still (s.onReceiver p f) := by
  cases p with
  | trunk => exact still_setTrunk (.refl _) rfl rfl id
  | branch b => exact still_onBranch (f := fun q => { q with receiver := f q.receiver }) (BranchPort.still_receiver _ _)

theorem State.still_setAssembler_none (p : Port) (s : State) : s.Still (s.setAssembler p none) := by
  cases p with
  | trunk => exact still_setTrunk (.refl _) rfl rfl id
  | branch b => exact still_onBranch (f := fun q => { q with assembler := none }) (BranchPort.still_assembler_none _)

theorem State.still_abandonFrame (p : Port) (a : Assembly) (s : State) : s.Still (s.abandonFrame p a) :=
  ((s.still_countPort p _).trans (State.still_free? _ _)).trans (State.still_setAssembler_none p _)

theorem State.still_abandon (p : Port) (a : Assembly) (s : State) : s.Still (s.abandon p a) := by
  refine (s.still_abandonFrame p a).trans ?_
  unfold State.abandon State.tellOwner
  split
  · exact State.still_replyAbandoned _ _
  · exact .refl _
  · exact .refl _

theorem State.still_endEarly (p : Port) (s : State) : s.Still (s.endEarly p) := by
  unfold State.endEarly
  split
  · exact .refl s
  · exact s.still_abandon p _

theorem State.still_breakFrame (p : Port) (s : State) : s.Still (s.breakFrame p) := by
  unfold State.breakFrame
  split
  · exact .refl s
  · exact s.still_abandonFrame p _

theorem State.still_claimTrunk (v : Byte) (s : State) : s.Still (s.claimTrunk v).2 := by
  unfold State.claimTrunk
  split
  · split
    · exact s.still_claim v _ _
    · exact s.still_countTrunk _
  · exact s.still_countTrunk _

/-- The slot that takes a frame as its reply is open, with a reservation held (R49, R59). -/
theorem State.takesReply_slot {s : State} {b : Branch} {v : Byte} {x : Slot} (h : s.takesReply b v = some x) :
    (s.branch b).slot = some x ∧ x.phase.holdsReservation = true := by
  unfold State.takesReply at h
  split at h
  case h_1 => cases h
  case h_2 y hy =>
    have hout : ∀ c : Prop, [Decidable c] → (if c then some y else none) = some x → y = x := fun c _ hc => by
      split at hc
      · exact Option.some.inj hc
      · cases hc
    split at h
    case h_1 t ht => obtain rfl := hout _ h; exact ⟨hy, by rw [ht]; rfl⟩
    case h_2 hr => obtain rfl := hout _ h; exact ⟨hy, by rw [hr]; rfl⟩
    all_goals cases h

theorem State.still_claimFor {p : Port} {v : Byte} {s u : State} {store : Option BufferId}
    (h : s.claimFor p v = some (store, u)) : s.Still u := by
  cases p with
  | trunk =>
    have hu : (s.claimTrunk v).2 = u := by rw [Option.some.inj h]
    exact hu ▸ s.still_claimTrunk v
  | branch b =>
    unfold State.claimFor State.claimBranch at h
    dsimp only at h
    split at h
    case h_1 => cases h; exact .refl s
    case h_2 x hx =>
      split at h
      case h_1 => cases h; exact still_convert (takesReply_slot hx).1 x v _ _
      case h_2 => cases h

theorem State.still_storeChar (a : Assembly) (v : Byte) (s : State) : s.Still (s.storeChar a v) := by
  unfold State.storeChar
  split
  · exact s.still_writeChar _ v
  · exact .refl s

theorem State.still_deliver (p : Port) (a : Assembly) (s : State) : s.Still (s.deliver p a) := by
  unfold State.deliver
  split
  · exact (s.still_completeBuffer _ _).trans (State.still_routeStored _ _)
  · exact (s.still_completeBuffer _ _).trans (State.still_judgeReply _ _ _)
  · exact s.still_routeUnstored _ _ _
  · exact s.still_classify _ _ _ _

theorem State.still_completeFrame (p : Port) (a : Assembly) (w : Word) (s : State) : s.Still (s.completeFrame p a w) := by
  unfold State.completeFrame
  split
  · exact s.still_abandon p a
  · exact ((s.still_countPort p _).trans (State.still_setAssembler_none p _)).trans (State.still_deliver p a _)

/-! ## The flush of a branch (R111, R112) -/

theorem State.still_flushEntry (b : Branch) (s : State) (n : BufferId) : s.Still (s.flushEntry b n) := by
  unfold State.flushEntry
  split
  · exact (s.still_buildFault n _ _ _ _ _).trans (State.still_appendUpstream _ _)
  · exact s.still_releaseRef n

theorem State.still_flush (b : Branch) (s : State) : s.Still (s.flush b) := by
  have hempty : ∀ u : State, u.Still (u.onBranch b fun p => { p with queue := [], assembler := none }) :=
    fun u => still_onBranch (BranchPort.still_emptied _)
  have hdatagram : ∀ u : State, u.Still (u.onBranch b fun p => { p with datagram := none }) :=
    fun u => still_onBranch (BranchPort.still_datagram_none _)
  exact ((((s.still_abortSlot b).trans (hempty _)).trans (still_foldl (State.still_flushEntry b) _ _)).trans
    (State.still_releaseRef? _ _)).trans (hdatagram _)

/-! ## The trunk transmitter (R138, R141) -/

theorem State.still_space (s : State) : s.Still (s.onTrunk TrunkPort.space) := still_setTrunk (.refl _) rfl rfl id

theorem State.still_takeSpacingEnd (s : State) : s.Still s.takeSpacingEnd :=
  State.Still.trans (t := s.setTrunk { s.trunk with transmitter := .idle }) (still_setTrunk (.refl _) rfl rfl id)
    (State.still_startIfIdle _)

theorem State.still_releaseItem (i : UpItem) (s : State) : s.Still (s.releaseItem i) := by
  cases i with
  | frame n c => exact s.still_free n
  | refusal r => exact still_setTrunk (.refl _) rfl rfl fun h => (List.length_erase_le).trans h

theorem State.still_dropItem (s : State) (i : UpItem) : s.Still (s.dropItem i) := by
  cases i with
  | frame n c => exact s.still_free n
  | refusal r => exact .refl s

theorem State.still_resetTrunkSide (s : State) : s.Still s.resetTrunkSide :=
  ((s.still_breakFrame .trunk).trans (still_foldl State.still_dropItem _ _)).trans
    (still_setTrunk (.refl _) rfl rfl fun _ => Nat.zero_le _)

theorem State.still_voidAgent (s : State) : s.Still s.voidAgent := by
  refine (still_foldl (fun s n => State.still_free n s) (s.agent.queue.drop 1) s).trans (still_setAgent rfl (fun _ => ?_) ?_)
  · simp only [List.length_take]; omega
  · exact fun p hp h => h.2.2.1 p hp

end Sys2Proof.Machine
end

section
/-! PROOFS. Every event keeps the invariants (R23, R94 to R97, R111, R114 to R116, the ranges), and no counter falls but where
the manual clears it (R200). -/

namespace Sys2Proof.Machine

/-! ## Which line states a branch can be in (R111, R114 to R116) -/

section
variable {p q : BranchPort}

theorem BranchPort.ClosedIsOff.not_closed (h : p.ClosedIsOff) (hl : p.line ≠ .off) : p.admission ≠ .closed :=
  fun hc => hl (h.1.mp hc)

/-- A branch that is not CLOSED and not OFF. -/
theorem BranchPort.closedIsOff_of_open (ha : q.admission ≠ .closed) (hl : q.line ≠ .off) : q.ClosedIsOff :=
  ⟨⟨fun h => absurd h ha, fun h => absurd h hl⟩, fun h => absurd h ha⟩

/-- A branch that sends nothing and is not DRIVING. -/
theorem BranchPort.drives_of_silent (hs : q.sending = none) (hl : ∀ a, q.line ≠ .driving a)
    (ha : q.assembler ≠ none → q.line = .hearing) : q.DrivesWhatItSends :=
  ⟨fun ⟨a, h⟩ => absurd h (hl a), fun h => absurd hs h, ha⟩

/-- A branch that sends, with no frame in assembly. -/
theorem BranchPort.drives_of_sending (hs : q.sending ≠ none)
    (hl : (∃ a, q.line = .driving a) ∨ q.line = .off ∨ ∃ c, q.line = .settling c) (ha : q.assembler = none) :
    q.DrivesWhatItSends := ⟨fun _ => hs, fun _ => hl, fun h => absurd ha h⟩

/-- Nothing is sent but on a DRIVING, OFF or SETTLING line. -/
theorem BranchPort.DrivesWhatItSends.sending_none (h : p.DrivesWhatItSends) (hd : ∀ a, p.line ≠ .driving a)
    (ho : p.line ≠ .off) (hs : ∀ c, p.line ≠ .settling c) : p.sending = none := by
  by_contra hne
  rcases h.2.1 hne with ⟨a, ha⟩ | ho' | ⟨c, hc⟩
  · exact hd a ha
  · exact ho ho'
  · exact hs c hc

theorem BranchPort.DrivesWhatItSends.assembler_none (h : p.DrivesWhatItSends) (hl : p.line ≠ .hearing) :
    p.assembler = none := by
  by_contra hne
  exact hl (h.2.2 hne)

/-- An event that takes a branch from a line that is not OFF to another such line. -/
theorem BranchPort.settles_of_line (hr : p.InRange → q.InRange) (ha : q.admission = p.admission)
    (hp : p.ClosedIsOff → p.line ≠ .off) (hq : q.line ≠ .off)
    (hd : p.ClosedIsOff → p.DrivesWhatItSends → q.DrivesWhatItSends) : p.Settles q where
  inRange := hr
  closed := fun h => closedIsOff_of_open (ha ▸ h.not_closed (hp h)) hq
  drives := hd

end

/-! ## A branch that hears (R116, R156) -/

/-- A branch whose line delivers characters, or that has a frame in assembly. -/
def BranchPort.Hears (p : BranchPort) : Prop := p.line.delivers = true ∨ p.assembler ≠ none

theorem LineState.delivers_iff (l : LineState) : l.delivers = true ↔ (∃ q, l = .quiet q) ∨ l = .hearing := by
  cases l <;> simp [LineState.delivers]

theorem BranchPort.Hears.not_off {p : BranchPort} (h : p.Hears) (hc : p.ClosedIsOff) : p.line ≠ .off := by
  intro hoff
  rcases h with h | h
  · rw [hoff] at h; cases h
  · exact h (hc.2 (hc.1.mpr hoff)).2.2.1

theorem BranchPort.Hears.sending_none {p : BranchPort} (h : p.Hears) (hd : p.DrivesWhatItSends) : p.sending = none := by
  have hline : (∃ q, p.line = .quiet q) ∨ p.line = .hearing := by
    rcases h with h | h
    · exact (LineState.delivers_iff _).mp h
    · exact .inr (hd.2.2 h)
  rcases hline with ⟨q, hl⟩ | hl <;> exact hd.sending_none (by simp [hl]) (by simp [hl]) (by simp [hl])

/-- A branch that hears, and is still up to an event that leaves it HEARING, or QUIET with nothing in assembly. -/
theorem BranchPort.Still.evolves_heard {p q : BranchPort} (h : p.Still q) (hp : p.Hears) (l : LineState)
    (x : Option Assembly) (r : Receiver) (hl : l = .hearing ∨ (∃ t, l = .quiet t) ∧ x = none) :
    p.Evolves { q with line := l, assembler := x, receiver := r } where
  toSettles := by
    have hawake : l ≠ .off ∧ ∀ a, l ≠ .driving a := by rcases hl with rfl | ⟨⟨t, rfl⟩, -⟩ <;> simp
    refine settles_of_line h.inRange h.admission hp.not_off hawake.1 fun _ hd => ?_
    refine drives_of_silent (h.sending.trans (hp.sending_none hd)) hawake.2 fun hx => ?_
    rcases hl with hl | ⟨-, hn⟩
    · exact hl
    · exact absurd hn hx
  counters := h.counters

@[simp] theorem State.onBranch_onBranch (b : Branch) (f g : BranchPort → BranchPort) (s : State) :
    (s.onBranch b f).onBranch b g = s.onBranch b fun p => g (f p) := by
  simp [State.onBranch]

/-- The port hears: always the trunk, whose line no invariant here speaks of. -/
def State.Hears (s : State) : Port → Prop
  | .trunk => True
  | .branch b => (s.branch b).Hears

theorem State.hears_of_delivers {s : State} {p : Port} (h : s.delivers p = true) : s.Hears p := by
  cases p with
  | trunk => trivial
  | branch b => exact .inl h

theorem State.hears_of_isHearing {s : State} {p : Port} (h : s.isHearing p = true) : s.Hears p := by
  cases p with
  | trunk => trivial
  | branch b =>
    have hl : (s.branch b).line = .hearing := beq_iff_eq.mp h
    exact .inl (by rw [hl]; rfl)

theorem State.hears_of_assembler {s : State} {p : Port} {a : Assembly} (h : s.assembler p = some a) : s.Hears p := by
  cases p with
  | trunk => trivial
  | branch b => exact .inr (by rw [show (s.branch b).assembler = some a from h]; simp)

/-- A part that is still but for one branch, which evolves. -/
theorem State.Still.evolves_onBranch {s t : State} (h : s.Still t) {b : Branch} {f : BranchPort → BranchPort}
    (hb : (s.branch b).Evolves (f (t.branch b))) : s.Evolves (t.onBranch b f) := by
  refine ⟨h.map, fun c => ?_, h.trunk, h.ranges, h.waiting⟩
  by_cases hc : c = b
  · subst hc; rwa [State.onBranch_same]
  · rw [State.onBranch_of_ne f t hc]; exact (h.branch c).evolves

/-- The line of a port that heard is idle, with nothing in assembly (R116, R145). -/
theorem State.Still.evolves_rest {s t : State} (h : s.Still t) {p : Port} (hp : s.Hears p) (ht : t.assembler p = none)
    (quiet : Nat) : s.Evolves (t.rest p quiet) := by
  cases p with
  | trunk =>
    have hline : t.Still (t.setTrunk { t.trunk with line := .idle }) := still_setTrunk (.refl _) rfl rfl id
    exact ((h.trans hline).trans (State.still_receiveAtRest _)).evolves
  | branch b =>
    exact h.evolves_onBranch ((h.branch b).evolves_heard hp (.quiet quiet) _ _ (.inr ⟨⟨quiet, rfl⟩, ht⟩))

/-- The line of a port that heard is HEARING with this frame in assembly (R116, R145). -/
theorem State.Still.evolves_hear {s t : State} (h : s.Still t) {p : Port} (hp : s.Hears p) (x : Option Assembly) :
    s.Evolves ((t.setAssembler p x).hear p) := by
  cases p with
  | trunk =>
    have hline : t.Still (t.setTrunk { t.trunk with assembler := x, line := .hearing }) :=
      still_setTrunk (.refl _) rfl rfl id
    exact (h.trans hline).evolves
  | branch b =>
    have heq : (t.setAssembler (.branch b) x).hear (.branch b) = t.onBranch b fun q =>
        { q with assembler := x, line := .hearing } := by
      simp [State.setAssembler, State.hear]
    rw [heq]
    exact h.evolves_onBranch ((h.branch b).evolves_heard hp .hearing x _ (.inl rfl))

theorem State.onBranch_eq_self {s : State} {b : Branch} {f : BranchPort → BranchPort} (h : f (s.branch b) = s.branch b) :
    s.onBranch b f = s := by
  refine State.ext_parts rfl rfl (fun c => ?_) rfl rfl rfl rfl rfl
  by_cases hc : c = b
  · subst hc; rwa [State.onBranch_same]
  · rw [State.onBranch_of_ne f s hc]

/-- A line that is HEARING stays so. -/
theorem State.hear_of_isHearing {s : State} {p : Port} (h : s.isHearing p = true) : s.hear p = s := by
  cases p with
  | trunk =>
    have hl : s.trunk.line = .hearing := beq_iff_eq.mp h
    refine State.ext_parts rfl rfl (fun _ => rfl) ?_ rfl rfl rfl rfl
    rw [State.hear, State.onTrunk_trunk, ← hl]
  | branch b =>
    have hl : (s.branch b).line = .hearing := beq_iff_eq.mp h
    exact onBranch_eq_self (f := fun q => { q with line := .hearing }) (by rw [← hl])

theorem State.onReceiver_isHearing (p : Port) (f : Receiver → Receiver) (s : State) :
    (s.onReceiver p f).isHearing p = s.isHearing p := by
  cases p with
  | trunk => rfl
  | branch b => simp [State.isHearing, State.onReceiver]

theorem State.setAssembler_isHearing (p : Port) (x : Option Assembly) (s : State) :
    (s.setAssembler p x).isHearing p = s.isHearing p := by
  cases p with
  | trunk => rfl
  | branch b => simp [State.isHearing, State.setAssembler]

/-! ## Events of reception (R7 to R13, R156) -/

theorem State.evolves_takeAddress {s u : State} {p : Port} {v : Byte} {noisy damaged : Bool} (hd : s.delivers p = true)
    (h : s.takeAddress p v noisy damaged = some u) : s.Evolves u := by
  unfold State.takeAddress at h
  split at h
  case h_1 store w hw =>
    cases h
    have hstill := (s.still_endEarly p).trans (still_claimFor hw)
    exact (hstill.evolves_hear (hears_of_delivers hd) _).trans
      ((State.still_onReceiver p _ _).trans (State.still_countNoise p noisy _)).evolves
  case h_2 => cases h

theorem State.setAssembler_assembler (p : Port) (x : Option Assembly) (s : State) : (s.setAssembler p x).assembler p = x := by
  cases p with
  | trunk => rfl
  | branch b => simp [State.assembler, State.setAssembler]

/-- With nothing in assembly at a port, a part that stays still has nothing in assembly there: on a branch. -/
theorem State.Still.assembler_none {s t : State} (h : s.Still t) {b : Branch} (hs : s.assembler (.branch b) = none) :
    t.assembler (.branch b) = none := (h.branch b).assembler hs

/-- The line of a port rests once its assembler is IDLE. -/
theorem State.Still.evolves_rest_of_branch {s t : State} (h : s.Still t) {p : Port} (hp : s.Hears p)
    (ht : ∀ b, p = .branch b → t.assembler p = none) (quiet : Nat) : s.Evolves (t.rest p quiet) := by
  cases p with
  | trunk =>
    have hline : t.Still (t.setTrunk { t.trunk with line := .idle }) := still_setTrunk (.refl _) rfl rfl id
    exact ((h.trans hline).trans (State.still_receiveAtRest _)).evolves
  | branch b => exact h.evolves_rest hp (ht b rfl) quiet

theorem State.completeFrame_assembler (b : Branch) (a : Assembly) (w : Word) (s : State) :
    (s.completeFrame (.branch b) a w).assembler (.branch b) = none := by
  unfold State.completeFrame
  split
  · exact State.abandon_assembler _ a s
  · exact (State.still_deliver _ a _).assembler_none (State.setAssembler_assembler _ none _)

theorem State.countPort_assembler (p : Port) (c : PortCounter) (s : State) : (s.countPort p c).assembler p = s.assembler p := by
  cases p with
  | trunk => rfl
  | branch b => simp [State.assembler, State.countPort, BranchPort.count]

theorem State.evolves_takeInFrame {s : State} {p : Port} (hd : s.delivers p = true) (v : Byte) (noisy damaged : Bool)
    (a : Assembly) : s.Evolves (s.takeInFrame p v noisy damaged a) := by
  have hstore := s.still_storeChar a v
  unfold State.takeInFrame
  dsimp only
  split
  case isTrue =>
    exact (hstore.trans (State.still_abandon p a _)).evolves_rest (hears_of_delivers hd) (State.abandon_assembler p a _) 0
  case isFalse =>
    split
    case isTrue =>
      refine (hstore.trans (State.still_completeFrame p _ _ _)).evolves_rest_of_branch (hears_of_delivers hd) ?_ 0
      rintro b rfl
      exact State.completeFrame_assembler b _ _ _
    case isFalse => exact hstore.evolves_hear (hears_of_delivers hd) _

theorem State.evolves_takeData {s : State} {p : Port} (hd : s.delivers p = true) (v : Byte) (noisy damaged : Bool) :
    s.Evolves (s.takeData p v noisy damaged) := by
  have hafter : ∀ u : State, u.Evolves ((u.onReceiver p Receiver.endCharacter).countNoise p noisy) := fun u =>
    ((u.still_onReceiver p _).trans (State.still_countNoise p noisy _)).evolves
  unfold State.takeData
  dsimp only
  refine State.Evolves.trans ?_ (hafter _)
  split
  case h_1 hnone =>
    exact (s.still_countPort p _).evolves_rest (hears_of_delivers hd) ((s.countPort_assembler p _).trans hnone) 0
  case h_2 a _ => exact evolves_takeInFrame hd v noisy damaged a

theorem State.evolves_takeGapTimerExpiry (p : Port) (s : State) : s.Evolves (s.takeGapTimerExpiry p) := by
  unfold State.takeGapTimerExpiry
  split
  case h_1 => exact .refl s
  case h_2 a ha => exact (s.still_abandon p a).evolves_rest (hears_of_assembler ha) (State.abandon_assembler p a s) _

theorem State.evolves_takeStartBit {s : State} {p : Port} (hd : s.delivers p = true) : s.Evolves (s.takeStartBit p) :=
  ((State.Still.refl s).evolves_hear (hears_of_delivers hd) _).trans (State.still_onReceiver p _ _).evolves

theorem State.onReceiver_assembler (p : Port) (f : Receiver → Receiver) (s : State) :
    (s.onReceiver p f).assembler p = s.assembler p := by
  cases p with
  | trunk => rfl
  | branch b => simp [State.assembler, State.onReceiver]

theorem State.evolves_takeFalseStart {s : State} {p : Port} (h : s.isHearing p = true) : s.Evolves (s.takeFalseStart p) := by
  have hstill := s.still_onReceiver p Receiver.dropCharacter
  unfold State.takeFalseStart
  dsimp only
  split
  case h_1 hnone => exact hstill.evolves_rest (hears_of_isHearing h) hnone 0
  case h_2 a _ =>
    have hhearing : ∀ x, ((s.onReceiver p Receiver.dropCharacter).setAssembler p x).isHearing p = true := fun x => by
      rw [State.setAssembler_isHearing, State.onReceiver_isHearing]; exact h
    rw [← State.hear_of_isHearing (hhearing _)]
    exact hstill.evolves_hear (hears_of_isHearing h) _

/-! ## Events of a branch line (R45, R47, R113 to R124) -/

section
variable {p : BranchPort}

/-- A transmission starts on a QUIET line (R45, R121). -/
theorem BranchPort.settles_drive {q : BranchPort} {t : Nat} (hl : p.line = .quiet t) (hr : p.InRange → q.InRange)
    (ha : q.admission = p.admission) (hasm : q.assembler = p.assembler) (hline : q.line = .driving .frame)
    (hs : q.sending ≠ none) : p.Settles q := by
  refine settles_of_line hr ha (fun _ => by simp [hl]) (by simp [hline]) fun _ hd => ?_
  exact drives_of_sending hs (.inl ⟨_, hline⟩) (hasm.trans (hd.assembler_none (by simp [hl])))

/-- The driver is released on a DRIVING line, which is QUIET or HEARING from then on (R47, R122). -/
theorem BranchPort.settles_release {q : BranchPort} {a : DrivingEnd} (hl : p.line = .driving a)
    (hr : p.InRange → q.InRange) (ha : q.admission = p.admission) (hasm : q.assembler = p.assembler)
    (hline : q.line = .quiet 0 ∨ q.line = .hearing) (hs : q.sending = none) : p.Settles q := by
  have hawake : q.line ≠ .off ∧ ∀ a, q.line ≠ .driving a := by rcases hline with h | h <;> simp [h]
  refine settles_of_line hr ha (fun _ => by simp [hl]) hawake.1 fun _ hd => ?_
  exact drives_of_silent hs hawake.2 fun hx => absurd (hasm.trans (hd.assembler_none (by simp [hl]))) hx

/-- A line that is not OFF, DRIVING or HEARING goes over to one that is not OFF, DRIVING or HEARING either, and what it still
sends it sends while SETTLING. -/
theorem BranchPort.settles_idle {q : BranchPort} (hl : p.line ≠ .off) (hlh : p.line ≠ .hearing)
    (hr : p.InRange → q.InRange) (ha : q.admission = p.admission) (hasm : q.assembler = p.assembler ∨ q.assembler = none)
    (hq : q.line ≠ .off) (hqd : ∀ a, q.line ≠ .driving a)
    (hs : p.DrivesWhatItSends → q.sending = none ∨ ∃ c, q.line = .settling c) : p.Settles q := by
  refine settles_of_line hr ha (fun _ => hl) hq fun _ hd => ?_
  have hnone : q.assembler = none := hasm.elim (fun h => h.trans (hd.assembler_none hlh)) id
  exact ⟨fun ⟨a, h⟩ => absurd h (hqd a), fun hsend => .inr (.inr ((hs hd).resolve_left hsend)), fun h => absurd hnone h⟩

end

/-- A branch goes OFF as it closes (R111, R114). -/
theorem BranchPort.settles_goOff {p q : BranchPort} (hr : p.InRange → q.InRange) (ha : q.admission = .closed)
    (hempty : q.queue = [] ∧ q.slot = none ∧ q.assembler = none ∧ q.datagram = none) : p.Settles q.goOff where
  inRange := hr
  closed := fun _ => ⟨⟨fun _ => rfl, fun _ => ha⟩, fun _ => hempty⟩
  drives := by
    rintro - -
    refine ⟨fun ⟨a, h⟩ => (nomatch h), fun _ => .inr (.inl rfl), fun h => absurd hempty.2.2.1 h⟩

end Sys2Proof.Machine
end

section
/-! PROOFS. When an event is possible, row by row: what its conditions come to once the time it waits for has passed (log
entry 3). -/

namespace Sys2Proof.Machine

/-! ## The line of a branch -/

theorem LineState.isOff_iff (l : LineState) : l.isOff = true ↔ l = .off := by
  cases l <;> simp [LineState.isOff]

theorem LineState.isBreakOut_iff (l : LineState) : l.isBreakOut = true ↔ ∃ k, l = .breakOut k := by
  cases l <;> simp [LineState.isBreakOut]

theorem LineState.finishesStopped_iff (l : LineState) : l.finishesStopped = true ↔
    l = .off ∨ (∃ c, l = .settling c) ∨ l = .driving .emission ∨ l = .driving .settle := by
  cases l with
  | driving a => cases a <;> simp [LineState.finishesStopped]
  | _ => simp [LineState.finishesStopped]

theorem TrunkLine.delivers_iff (l : TrunkLine) : l.delivers = true ↔ l = .idle ∨ l = .hearing := by
  cases l <;> simp [TrunkLine.delivers]

theorem TrunkLine.hearsBreak_iff (l : TrunkLine) : l.hearsBreak = true ↔ l = .idle ∨ l = .hearing ∨ ∃ c, l = .settling c := by
  cases l <;> simp [TrunkLine.hearsBreak]

/-! ## The end of what is sent -/

theorem Transmission.finished_iff (t : Transmission) : t.finished = true ↔ t.chars.length ≤ t.sent := decide_eq_true_iff

theorem Transmission.finished_complete (t : Transmission) : t.complete.finished = true := by
  rw [Transmission.finished_iff]
  exact le_max_right _ _

/-! ## Reception (R11, R156) -/

theorem State.delivers_branch_iff (s : State) (b : Branch) : s.delivers (.branch b) = true ↔
    (∃ q, (s.branch b).line = .quiet q) ∨ (s.branch b).line = .hearing := LineState.delivers_iff _

theorem State.delivers_trunk_iff (s : State) : s.delivers .trunk = true ↔ s.trunk.line = .idle ∨ s.trunk.line = .hearing :=
  TrunkLine.delivers_iff _

theorem State.isHearing_branch_iff (s : State) (b : Branch) :
    s.isHearing (.branch b) = true ↔ (s.branch b).line = .hearing := beq_iff_eq

theorem State.isHearing_trunk_iff (s : State) : s.isHearing .trunk = true ↔ s.trunk.line = .hearing := beq_iff_eq

theorem State.possible_startBit_iff (s : State) (p : Port) : s.possible (.startBitLeadingEdge p) = true ↔
    s.delivers p = true ∧ (s.receiver p).char = none := by
  simp [State.possible, State.takesEdge]

theorem State.possible_falseStart_iff (s : State) (p : Port) : s.possible (.falseStart p) = true ↔
    s.isHearing p = true ∧ (s.receiver p).char ≠ none := by
  simp [State.possible, State.takesFalseStart, Option.isSome_iff_ne_none]

theorem State.possible_gapTimerExpiry_iff (s : State) (p : Port) : s.possible (.gapTimerExpiry p) = true ↔
    ∃ a g, s.assembler p = some a ∧ a.gap = some g := by
  simp only [State.possible, State.gapTimerExpiryDue, State.awaitGap, State.setAssembler_assembler]
  cases s.assembler p with
  | none => simp
  | some a => cases h : a.gap <;> simp [Assembly.gapExpired, Assembly.gapOut, h]

/-! ## The slot (R45, R47, R51) -/

section
variable (s : State) (b : Branch)

theorem State.possible_sendStart_iff : s.possible (.sendStart b) = true ↔
    (∃ x, (s.branch b).slot = some x ∧ x.phase = .ready) ∧ ∃ q, (s.branch b).line = .quiet q := by
  simp only [State.possible]
  generalize s.branch b = p
  cases hl : p.line <;> cases hs : p.slot <;> simp [BranchPort.awaitQuiet, BranchPort.sendStartDue, BranchPort.ct, hl, hs]

theorem State.possible_endOfTransmission_iff : s.possible (.endOfTransmission b) = true ↔
    (∃ x, (s.branch b).slot = some x ∧ x.phase = .sending) ∧ (s.branch b).line = .driving .frame ∧
      ∃ tx, (s.branch b).sending = some tx := by
  simp only [State.possible]
  generalize s.branch b = p
  cases hs : p.slot <;> cases ht : p.sending <;>
    simp [BranchPort.awaitSending, BranchPort.endOfTransmissionDue, Transmission.finished_complete, hs, ht]

theorem State.possible_replyTimerExpiry_iff : s.possible (.replyTimerExpiry b) = true ↔
    ∃ x left, (s.branch b).slot = some x ∧ x.phase = .waiting left := by
  simp only [State.possible]
  generalize s.branch b = p
  cases hs : p.slot with
  | none => simp [BranchPort.awaitReply, BranchPort.replyTimerExpiryDue, hs]
  | some x => cases hx : x.phase <;> simp [BranchPort.awaitReply, BranchPort.replyTimerExpiryDue, SlotPhase.timeOut, hs, hx]

/-! ## DATAGRAMs (R121, R122) -/

theorem State.headIsDatagram_iff : s.headIsDatagram b = true ↔
    ∃ n rest, (s.branch b).queue = n :: rest ∧ (s.desc n).kind = .datagram := by
  unfold State.headIsDatagram
  cases (s.branch b).queue <;> simp

theorem BranchPort.turnaroundPassed_iff (p : BranchPort) :
    p.turnaroundPassed = true ↔ ∃ t, p.line = .quiet t ∧ p.turnaround * p.ct ≤ t := by
  cases hl : p.line <;> simp [BranchPort.turnaroundPassed, hl]

/-- Time passes up to the turnaround gap on a QUIET line, and on no other. -/
theorem BranchPort.awaitQuiet_turnaroundPassed (p : BranchPort) :
    p.awaitQuiet.turnaroundPassed = true ↔ ∃ q, p.line = .quiet q := by
  cases hl : p.line <;> simp [BranchPort.awaitQuiet, BranchPort.turnaroundPassed, BranchPort.ct, hl]

theorem BranchPort.awaitQuiet_eq (p : BranchPort) : p.awaitQuiet = { p with line := p.awaitQuiet.line } := by
  unfold BranchPort.awaitQuiet
  split <;> rfl

theorem State.possible_datagramStart_iff : s.possible (.datagramStart b) = true ↔
    (∃ n rest, (s.branch b).queue = n :: rest ∧ (s.desc n).kind = .datagram) ∧ (s.branch b).slot = none ∧
      ∃ q, (s.branch b).line = .quiet q := by
  have hqueue : (s.branch b).awaitQuiet.queue = (s.branch b).queue := by rw [BranchPort.awaitQuiet_eq]
  have hslot : (s.branch b).awaitQuiet.slot = (s.branch b).slot := by rw [BranchPort.awaitQuiet_eq]
  simp only [State.possible, State.datagramStartDue, Bool.and_eq_true, State.headIsDatagram_iff, State.onBranch_same,
    State.onBranch_desc, BranchPort.awaitQuiet_turnaroundPassed, Option.isNone_iff_eq_none, and_assoc, hqueue, hslot]

theorem State.possible_datagramEnd_iff : s.possible (.datagramEnd b) = true ↔
    (s.branch b).datagram ≠ none ∧ (s.branch b).line = .driving .frame ∧ ∃ tx, (s.branch b).sending = some tx := by
  simp only [State.possible]
  generalize s.branch b = p
  cases hs : p.datagram <;> cases ht : p.sending <;>
    simp [BranchPort.awaitSending, BranchPort.datagramEndDue, Transmission.finished_complete, hs, ht]

/-! ## The line events (R114 to R120, R124, R162) -/

theorem State.possible_stoppedCharacterEnd_iff : s.possible (.stoppedCharacterEnd (.branch b)) = true ↔
    (s.branch b).line.finishesStopped = true ∧ ∃ tx, (s.branch b).sending = some tx := by
  simp only [State.possible, State.awaitSending, State.stoppedCharacterEndDue, State.onBranch_same]
  generalize s.branch b = p
  cases ht : p.sending <;>
    simp [BranchPort.awaitSending, BranchPort.stoppedCharacterEndDue, Transmission.finished_complete, ht]

theorem State.possible_breakHeard_iff : s.possible (.breakHeard b) = true ↔
    (s.branch b).line.hearsBreak = true ∧ (s.branch b).sending = none := by
  simp [State.possible, BranchPort.takesBreak]

theorem State.isBreakIn_branch_iff : s.isBreakIn (.branch b) = true ↔ ∃ j, (s.branch b).line = .breakIn j := by
  cases h : (s.branch b).line <;> simp [State.isBreakIn, h]

theorem State.isSettling_branch_iff : s.isSettling (.branch b) = true ↔
    (∃ c, (s.branch b).line = .settling c) ∧ (s.branch b).sending = none := by
  cases h : (s.branch b).line <;> simp [State.isSettling, h]

theorem State.possible_jam_iff : s.possible (.jam b) = true ↔ ∃ j, (s.branch b).line = .breakIn j := by
  simp only [State.possible]
  generalize s.branch b = p
  cases hl : p.line <;> simp [BranchPort.awaitJam, BranchPort.jamDue, BranchPort.ct, hl]

theorem State.possible_breakEmissionEnd_iff : s.possible (.breakEmissionEnd b) = true ↔ ∃ k, (s.branch b).line = .breakOut k := by
  simp only [State.possible]
  generalize s.branch b = p
  cases hl : p.line <;> simp [BranchPort.awaitEmission, BranchPort.breakEmissionEndDue, hl]

end

/-! ## The trunk (R138, R141, R144, R145) -/

section
variable (s : State)

theorem State.isBreakIn_trunk_iff : s.isBreakIn .trunk = true ↔ s.trunk.line = .breakIn := beq_iff_eq

theorem State.isSettling_trunk_iff : s.isSettling .trunk = true ↔ ∃ c, s.trunk.line = .settling c := by
  cases h : s.trunk.line <;> simp [State.isSettling, h]

theorem State.possible_spacingEnd_iff : s.possible .spacingEnd = true ↔ ∃ left, s.trunk.transmitter = .spacing left := by
  cases h : s.trunk.transmitter <;> simp [State.possible, TrunkPort.awaitTransmitter, TrunkPort.spacingEndDue, h]

theorem State.possible_transmissionEnd_iff : s.possible .transmissionEnd = true ↔
    ∃ item tx, s.trunk.transmitter = .sending item tx := by
  cases h : s.trunk.transmitter <;>
    simp [State.possible, TrunkPort.awaitTransmitter, TrunkPort.transmissionEndDue, Transmission.finished_complete, h]

theorem State.possible_stoppedCharacterEnd_trunk_iff : s.possible (.stoppedCharacterEnd .trunk) = true ↔
    ∃ tx, s.trunk.transmitter = .stopping tx := by
  cases h : s.trunk.transmitter <;>
    simp [State.possible, State.awaitSending, State.stoppedCharacterEndDue, TrunkPort.awaitTransmitter,
      TrunkPort.stoppedCharacterEndDue, Transmission.finished_complete, h]

theorem State.possible_grant_iff : s.possible .grant = true ↔ s.pool.reserved < s.pool.free.length ∧
    ∃ b ∈ s.pool.waiting, s.eligible b = true := by
  refine (State.grantPossible_iff s).trans (and_congr_right fun _ => ⟨fun ⟨b, hb⟩ => ?_, fun ⟨b, hb, he⟩ => ?_⟩)
  · have hne : s.pool.waiting.filter s.eligible ≠ [] := fun he => by simp [State.grantee, he] at hb
    obtain ⟨c, hc⟩ := List.exists_mem_of_ne_nil _ hne
    exact ⟨c, List.mem_filter.mp hc⟩
  · have hne : s.pool.waiting.filter s.eligible ≠ [] := List.ne_nil_of_mem (List.mem_filter.mpr ⟨hb, he⟩)
    obtain ⟨c, hc, -⟩ := State.grantee_firstOfHighest hne
    exact ⟨c, hc⟩

theorem State.possible_command_iff (c : Command) : s.possible c.event = true ↔
    ∃ n rest, s.agent.queue = n :: rest ∧ s.commandIn n = c := by
  have hexec : s.possible c.event = s.executes c := by cases c <;> rfl
  rw [hexec, State.executes]
  cases s.agent.queue <;> simp

end

end Sys2Proof.Machine
end

section
/-! PROOFS. Every step keeps ACTIVE sound, the branches closed or driving as they should, and the settings in range; and no
counter falls but where the manual clears it. -/

namespace Sys2Proof.Machine

/-! ## Events of a branch line (R45, R47, R113 to R124) -/

section
variable {s : State} {b : Branch}

/-- The line after the release of the driver at the end of a transmission (R163). -/
theorem BranchPort.releaseDriver_eq (p : BranchPort) : ∃ l r, (l = .quiet 0 ∨ l = .hearing) ∧
    p.releaseDriver = { p with line := l, sending := none, receiver := r } := by
  unfold BranchPort.releaseDriver
  split
  · exact ⟨_, _, .inl rfl, rfl⟩
  · exact ⟨_, _, .inr rfl, rfl⟩

/-- A branch of a part that stayed still takes a step of its own. -/
theorem State.Still.evolves_settles {t : State} (h : s.Still t) {f : BranchPort → BranchPort}
    (hb : (t.branch b).Settles (f (t.branch b))) (hc : (f (t.branch b)).counters = (t.branch b).counters) :
    s.Evolves (t.onBranch b f) :=
  h.evolves.trans (State.evolves_onBranch ⟨hb, hc ▸ .refl _⟩)

theorem State.evolves_takeSendStart (h : s.possible (.sendStart b) = true) : s.Evolves (s.takeSendStart b) := by
  obtain ⟨⟨x, hx, -⟩, q, hq⟩ := (s.possible_sendStart_iff b).mp h
  unfold State.takeSendStart
  rw [hx]
  dsimp only
  have hstill : s.Still (if 2 ≤ x.attempts + 1 then s.countBranch b .retries else s) := by
    split
    · exact s.still_countBranch b _
    · exact .refl s
  refine hstill.evolves_settles ?_ rfl
  exact BranchPort.settles_drive ((hstill.branch b).line.trans hq) id rfl rfl rfl (by simp [BranchPort.drive])

theorem State.evolves_takeEndOfTransmission (h : s.possible (.endOfTransmission b) = true) :
    s.Evolves (s.takeEndOfTransmission b) := by
  obtain ⟨⟨x, hx, -⟩, hl, -⟩ := (s.possible_endOfTransmission_iff b).mp h
  have hstill := s.still_countBranch b .framesOut
  unfold State.takeEndOfTransmission
  rw [hx]
  obtain ⟨l, r, hline, he⟩ := BranchPort.releaseDriver_eq ((s.countBranch b .framesOut).branch b)
  refine hstill.evolves_settles ?_ (by rw [he])
  rw [he]
  exact BranchPort.settles_release ((hstill.branch b).line.trans hl) id rfl rfl hline rfl

theorem State.still_takeReplyTimerExpiry (b : Branch) (s : State) : s.Still (s.takeReplyTimerExpiry b) := by
  unfold State.takeReplyTimerExpiry
  split
  case h_1 => exact .refl s
  case h_2 x hx =>
    exact (s.still_countBranch b .noReply).trans (still_attemptFailed ((s.countBranch_branch_slot b b _).trans hx) x _)

theorem State.evolves_takeDatagramStart (h : s.possible (.datagramStart b) = true) : s.Evolves (s.takeDatagramStart b) := by
  obtain ⟨⟨n, rest, hn, -⟩, -, q, hq⟩ := (s.possible_datagramStart_iff b).mp h
  unfold State.takeDatagramStart
  rw [hn]
  refine (State.Still.refl s).evolves_settles ?_ rfl
  refine BranchPort.settles_drive hq (fun ⟨hg, ht, hl, hv, hlen⟩ => ⟨hg, ht, hl, hv, ?_⟩) rfl rfl rfl
    (by simp [BranchPort.drive])
  exact (Nat.le_succ rest.length).trans (hn ▸ hlen : (n :: rest).length ≤ 16)

theorem State.evolves_takeDatagramEnd (h : s.possible (.datagramEnd b) = true) : s.Evolves (s.takeDatagramEnd b) := by
  obtain ⟨-, hl, -⟩ := (s.possible_datagramEnd_iff b).mp h
  have hstill := (s.still_countBranch b .framesOut).trans
    (State.still_releaseRef? ((s.countBranch b .framesOut).branch b).datagram (s.countBranch b .framesOut))
  unfold State.takeDatagramEnd
  dsimp only
  generalize State.releaseRef? ((s.countBranch b .framesOut).branch b).datagram (s.countBranch b .framesOut) = t at *
  obtain ⟨l, r, hline, he⟩ := BranchPort.releaseDriver_eq (t.branch b)
  refine hstill.evolves_settles ?_ (by rw [he])
  rw [he]
  exact BranchPort.settles_release ((hstill.branch b).line.trans hl) id rfl rfl hline rfl

/-- The end of a stopped character goes on to the line that its stop ordered (R114, R120, R129). -/
theorem BranchPort.settles_stoppedCharacterEnd {p : BranchPort} {tx : Transmission} (hl : p.line.finishesStopped = true)
    (hs : p.sending = some tx) : p.Settles p.stoppedCharacterEnd := by
  rcases (LineState.finishesStopped_iff p.line).mp hl with h | ⟨c, h⟩ | h | h
  · have he : p.stoppedCharacterEnd = { p with sending := none } := by
      simp only [BranchPort.stoppedCharacterEnd, hs, h]
    rw [he]
    refine ⟨id, id, fun _ hd => drives_of_silent rfl ?_ hd.2.2⟩
    intro a ha
    exact absurd (h.symm.trans ha) (by simp)
  · have he : p.stoppedCharacterEnd = { p.goSettling with sending := none } := by
      simp only [BranchPort.stoppedCharacterEnd, hs, h]
    rw [he]
    exact settles_idle (by simp [h]) (by simp [h]) id rfl (.inl rfl) (by simp [BranchPort.goSettling])
      (by simp [BranchPort.goSettling]) fun _ => .inl rfl
  · have he : p.stoppedCharacterEnd = p.emit := by simp only [BranchPort.stoppedCharacterEnd, hs, h]
    rw [he]
    exact settles_idle (by simp [h]) (by simp [h]) id rfl (.inl rfl) (by simp [BranchPort.emit])
      (by simp [BranchPort.emit]) fun _ => .inl rfl
  · have he : p.stoppedCharacterEnd = { p.goSettling with sending := none } := by
      simp only [BranchPort.stoppedCharacterEnd, hs, h]
    rw [he]
    exact settles_idle (by simp [h]) (by simp [h]) id rfl (.inl rfl) (by simp [BranchPort.goSettling])
      (by simp [BranchPort.goSettling]) fun _ => .inl rfl

theorem BranchPort.stoppedCharacterEnd_counters (p : BranchPort) : p.stoppedCharacterEnd.counters = p.counters := by
  unfold BranchPort.stoppedCharacterEnd
  split <;> rfl

theorem State.evolves_takeStoppedCharacterEnd {p : Port} (h : s.possible (.stoppedCharacterEnd p) = true) :
    s.Evolves (s.takeStoppedCharacterEnd p) := by
  cases p with
  | trunk => exact s.still_space.evolves
  | branch b =>
    obtain ⟨hl, tx, hs⟩ := (s.possible_stoppedCharacterEnd_iff b).mp h
    exact (State.Still.refl s).evolves_settles (BranchPort.settles_stoppedCharacterEnd hl hs)
      (BranchPort.stoppedCharacterEnd_counters _)

theorem State.breakFrame_assembler (b : Branch) (s : State) : ((s.breakFrame (.branch b)).branch b).assembler = none := by
  unfold State.breakFrame
  split
  case h_1 h => exact h
  case h_2 a _ => exact State.setAssembler_assembler (.branch b) none _

theorem State.evolves_takeBreak (h : s.possible (.breakHeard b) = true) : s.Evolves (s.takeBreak b) := by
  obtain ⟨hl, hs⟩ := (s.possible_breakHeard_iff b).mp h
  have hframe := (s.still_countBranch b .breaks).trans (State.still_breakFrame (.branch b) _)
  have hslot := State.still_breakSlot b (s.breakCounted b)
  have hstill : s.Still ((s.breakCounted b).breakSlot b) := hframe.trans hslot
  have hasm : (((s.breakCounted b).breakSlot b).branch b).assembler = none :=
    (hslot.branch b).assembler (State.breakFrame_assembler b _)
  have hoff : (s.branch b).line ≠ .off := fun e => by rw [e] at hl; cases hl
  rw [State.takeBreak_eq]
  refine hstill.evolves_settles (BranchPort.settles_of_line id rfl (fun _ => ?_) (by simp) fun _ _ => ?_) rfl
  · rw [(hstill.branch b).line]; exact hoff
  · exact BranchPort.drives_of_silent ((hstill.branch b).sending.trans hs) (by simp) fun hx => absurd hasm hx

theorem State.evolves_settle {p : Port} (h : s.isBreakIn p = true) : s.Evolves (s.settle p) := by
  cases p with
  | trunk => exact (still_setTrunk (t := s.trunk.goSettling) (.refl _) rfl rfl id).evolves
  | branch b =>
    obtain ⟨j, hl⟩ := (s.isBreakIn_branch_iff b).mp h
    refine (State.Still.refl s).evolves_settles ?_ rfl
    exact BranchPort.settles_idle (by simp [hl]) (by simp [hl]) id rfl (.inl rfl) (by simp [BranchPort.goSettling])
      (by simp [BranchPort.goSettling]) fun _ => .inr ⟨0, rfl⟩

theorem State.evolves_takeSettlingEnd {p : Port} (h : s.isSettling p = true) : s.Evolves (s.takeSettlingEnd p) := by
  cases p with
  | trunk =>
    exact (still_setTrunk (t := { s.trunk with line := .idle, receiver := Receiver.fresh }) (.refl _) rfl rfl id).evolves
  | branch b =>
    obtain ⟨⟨c, hl⟩, hs⟩ := (s.isSettling_branch_iff b).mp h
    refine (State.Still.refl s).evolves_settles (f := fun q => { q with line := .quiet 0, receiver := Receiver.fresh }) ?_ rfl
    exact BranchPort.settles_idle (by simp [hl]) (by simp [hl]) id rfl (.inl rfl) (by simp) (by simp) fun _ => .inl hs

theorem State.evolves_breakEmissionEnd (h : s.possible (.breakEmissionEnd b) = true) :
    s.Evolves (s.onBranch b BranchPort.goSettling) := by
  obtain ⟨k, hl⟩ := (s.possible_breakEmissionEnd_iff b).mp h
  refine (State.Still.refl s).evolves_settles ?_ rfl
  exact BranchPort.settles_idle (by simp [hl]) (by simp [hl]) id rfl (.inl rfl) (by simp [BranchPort.goSettling])
    (by simp [BranchPort.goSettling]) fun _ => .inr ⟨0, rfl⟩

end

/-! ## The flush of a branch, part by part (R111) -/

section
variable (b : Branch) (s : State)

theorem State.flushEntry_branches (n : BufferId) : (s.flushEntry b n).branches = s.branches := by
  unfold State.flushEntry
  split <;> simp

theorem State.flushEntry_map (n : BufferId) : (s.flushEntry b n).map = s.map := by
  unfold State.flushEntry
  split <;> simp

theorem State.flushEntry_agent (n : BufferId) : (s.flushEntry b n).agent = s.agent := by
  unfold State.flushEntry
  split <;> simp

/-- What each step over a list leaves alone, all of them leave alone. -/
theorem State.foldl_same {α β : Type} {f : State → α → State} {g : State → β} (h : ∀ (u : State) x, g (f u x) = g u)
    (l : List α) : ∀ u : State, g (l.foldl f u) = g u := by
  induction l with
  | nil => exact fun _ => rfl
  | cons x l ih => exact fun u => (ih (f u x)).trans (h u x)

/-- The abort of an open slot closes it (R58, R64). -/
theorem State.abortSlot_branch : (s.abortSlot b).branch b = match (s.branch b).slot with
    | none => s.branch b
    | some x => { s.branch b with
        slot := none, lastClosed := some { localAddress := x.localAddress, seq := x.seq }
        counters := ((s.branch b).count .faults).counters } := by
  unfold State.abortSlot
  split
  case h_1 h => simp only [h]
  case h_2 x h => simp only [h, State.closeSlot_same, State.free?_branch]

theorem State.abortSlot_of_ne {c : Branch} (h : c ≠ b) : (s.abortSlot b).branch c = s.branch c := by
  unfold State.abortSlot
  split
  · rfl
  · rw [State.closeSlot_of_ne _ _ _ h, State.free?_branch]

theorem State.abortSlot_slot : ((s.abortSlot b).branch b).slot = none := by
  rw [State.abortSlot_branch]
  split
  case h_1 h => exact h
  case h_2 => rfl

/-- The abort of the slot leaves the queue and the transmitter's reference to the rest of the flush. -/
theorem State.abortSlot_queue : ((s.abortSlot b).branch b).queue = (s.branch b).queue := by
  rw [State.abortSlot_branch]
  split <;> rfl

theorem State.abortSlot_datagram : ((s.abortSlot b).branch b).datagram = (s.branch b).datagram := by
  rw [State.abortSlot_branch]
  split <;> rfl

theorem State.abortSlot_map : (s.abortSlot b).map = s.map := by
  unfold State.abortSlot
  split <;> simp

theorem State.abortSlot_agent : (s.abortSlot b).agent = s.agent := by
  unfold State.abortSlot
  split <;> simp

/-- The entries of the queue flushed, once the slot is aborted. -/
def State.flushQueue : State :=
  (s.branch b).queue.foldl (State.flushEntry b)
    ((s.abortSlot b).onBranch b fun p => { p with queue := [], assembler := none })

theorem State.flushQueue_branches : (s.flushQueue b).branches =
    ((s.abortSlot b).onBranch b fun p => { p with queue := [], assembler := none }).branches :=
  foldl_same (g := State.branches) (State.flushEntry_branches b) _ _

theorem State.flushQueue_branch (c : Branch) : (s.flushQueue b).branch c =
    ((s.abortSlot b).onBranch b fun p => { p with queue := [], assembler := none }).branch c := by
  rw [State.branch, State.flushQueue_branches, State.branch]

/-- The flush in the order of R111: the slot, the queue, the transmitter's reference. -/
theorem State.flush_eq : s.flush b =
    ((s.flushQueue b).releaseRef? (s.branch b).datagram).onBranch b fun p => { p with datagram := none } := by
  have hdatagram : ((s.flushQueue b).branch b).datagram = (s.branch b).datagram := by
    rw [State.flushQueue_branch, State.onBranch_same]
    exact State.abortSlot_datagram b s
  have hflush : s.flush b = ((s.flushQueue b).releaseRef? ((s.flushQueue b).branch b).datagram).onBranch b
      fun p => { p with datagram := none } := by
    simp only [State.flush, State.flushQueue, State.abortSlot_queue]
  rw [hflush, hdatagram]

theorem State.flush_branch : (s.flush b).branch b =
    { (s.abortSlot b).branch b with queue := [], assembler := none, datagram := none } := by
  rw [State.flush_eq, State.onBranch_same, State.releaseRef?_branch, State.flushQueue_branch, State.onBranch_same]

theorem State.flush_of_ne {c : Branch} (h : c ≠ b) : (s.flush b).branch c = s.branch c := by
  rw [State.flush_eq, State.onBranch_of_ne _ _ h, State.releaseRef?_branch, State.flushQueue_branch,
    State.onBranch_of_ne _ _ h, State.abortSlot_of_ne b s h]

theorem State.flush_map : (s.flush b).map = s.map := by
  rw [State.flush_eq, State.onBranch_map, State.releaseRef?_map, State.flushQueue,
    foldl_same (g := State.map) (State.flushEntry_map b), State.onBranch_map, State.abortSlot_map]

theorem State.flush_agent : (s.flush b).agent = s.agent := by
  rw [State.flush_eq, State.onBranch_agent, State.releaseRef?_agent, State.flushQueue,
    foldl_same (g := State.agent) (State.flushEntry_agent b), State.onBranch_agent, State.abortSlot_agent]

end

/-- A branch that holds no traffic (R111). -/
def BranchPort.Empty (p : BranchPort) : Prop := p.queue = [] ∧ p.slot = none ∧ p.assembler = none ∧ p.datagram = none

theorem State.flush_empty (b : Branch) (s : State) : ((s.flush b).branch b).Empty := by
  rw [State.flush_branch]
  exact ⟨rfl, State.abortSlot_slot b s, rfl, rfl⟩

end Sys2Proof.Machine
end

section
/-! PROOFS. The events that stop a branch, a restart, a trunk line reset and the commands keep the invariants; every step does,
and no counter falls but where the manual clears it (R200). -/

namespace Sys2Proof.Machine

/-! ## A branch that is stopped (R114, R120, R128, R129, R167) -/

/-- The line states and transmissions to which a stop can lead: OFF stays OFF, a DRIVING line goes on driving what is left, and
any other line emits a break or settles. -/
def BranchPort.StopsTo (p q : BranchPort) : Prop :=
  (p.line = .off ∧ q.line = .off) ∨
  (∃ a e, p.line = .driving a ∧ q.line = .driving e ∧ (p.sending ≠ none → q.sending ≠ none)) ∨
  (p.line ≠ .off ∧ (∃ k, q.line = .breakOut k) ∧ q.sending = none) ∨ (p.line ≠ .off ∧ ∃ c, q.line = .settling c)

/-- A branch that is stopped and emptied keeps its invariants. -/
theorem BranchPort.settles_of_stopsTo {p q : BranchPort} (h : p.StopsTo q) (hr : p.InRange → q.InRange)
    (ha : q.admission = p.admission) (hempty : q.Empty) : p.Settles q := by
  have hoff : q.line = .off ↔ p.line = .off := by
    rcases h with ⟨hp, hq⟩ | ⟨a, e, hp, hq, -⟩ | ⟨hp, ⟨k, hq⟩, -⟩ | ⟨hp, c, hq⟩ <;> simp [hp, hq]
  refine ⟨hr, fun hc => ⟨by rw [ha, hoff]; exact hc.1, fun _ => hempty⟩, fun _ hd => ?_⟩
  obtain ⟨-, -, hasm, -⟩ := hempty
  rcases h with ⟨hp, hq⟩ | ⟨a, e, hp, hq, hs⟩ | ⟨hp, ⟨k, hq⟩, hs⟩ | ⟨hp, c, hq⟩
  · exact ⟨fun ⟨a, h⟩ => absurd (hq.symm.trans h) (by simp), fun _ => .inr (.inl hq), fun h => absurd hasm h⟩
  · exact drives_of_sending (hs (hd.1 ⟨a, hp⟩)) (.inl ⟨e, hq⟩) hasm
  · exact drives_of_silent hs (by simp [hq]) fun h => absurd hasm h
  · exact ⟨fun ⟨a, h⟩ => absurd (hq.symm.trans h) (by simp), fun _ => .inr (.inr ⟨c, hq⟩), fun h => absurd hasm h⟩

theorem BranchPort.stopsTo_orderEmission (p : BranchPort) : p.StopsTo p.orderEmission := by
  cases hl : p.line with
  | off => exact .inl ⟨hl, by simp [BranchPort.orderEmission, hl]⟩
  | driving a => exact .inr (.inl ⟨a, .emission, hl, by simp [BranchPort.orderEmission, hl]⟩)
  | _ => exact .inr (.inr (.inl ⟨by simp [hl], by simp [BranchPort.orderEmission, BranchPort.emit, hl]⟩))

theorem BranchPort.stopsTo_restartLine (p : BranchPort) : p.StopsTo p.restartLine := by
  cases hl : p.line with
  | off => exact .inl ⟨hl, by simp [BranchPort.restartLine, hl]⟩
  | driving a => exact .inr (.inl ⟨a, .settle, hl, by simp [BranchPort.restartLine, hl]⟩)
  | _ => exact .inr (.inr (.inr ⟨by simp [hl], by simp [BranchPort.restartLine, BranchPort.goSettling, hl]⟩))

/-- An ordered emission changes the line, what is sent and the receiver (R120). -/
theorem BranchPort.orderEmission_same (p : BranchPort) : p.orderEmission = { p with
    line := p.orderEmission.line, sending := p.orderEmission.sending, receiver := p.orderEmission.receiver } := by
  unfold BranchPort.orderEmission
  split <;> rfl

/-- A restart at the line changes the line, what is sent and the receiver (R129). -/
theorem BranchPort.restartLine_same (p : BranchPort) : p.restartLine = { p with
    line := p.restartLine.line, sending := p.restartLine.sending, receiver := p.restartLine.receiver } := by
  unfold BranchPort.restartLine
  split <;> rfl

/-- What an emptied branch queue does to the ranges. -/
theorem BranchPort.InRange.of_empty {p q : BranchPort} (hs : q.settings = p.settings) (ht : q.turnaround = p.turnaround)
    (hl : q.queueLimit = p.queueLimit) (hg : q.grantLevel = p.grantLevel) (hq : q.queue = []) (h : p.InRange) :
    q.InRange := by
  obtain ⟨h1, h2, h3, h4, -⟩ := h
  exact ⟨hs ▸ h1, ht ▸ h2, hl ▸ h3, hg ▸ h4, by simp [hq]⟩

theorem BranchPort.settles_silentReset (p : BranchPort) : p.Settles p.silentReset := by
  have hline : p.silentReset.line = p.orderEmission.line := rfl
  have hsending : p.silentReset.sending = p.orderEmission.sending := rfl
  have hstop : p.StopsTo p.silentReset := by
    unfold BranchPort.StopsTo
    rw [hline, hsending]
    exact p.stopsTo_orderEmission
  rw [BranchPort.silentReset_eq] at hstop ⊢
  exact settles_of_stopsTo hstop (.of_empty rfl rfl rfl rfl rfl) rfl ⟨rfl, rfl, rfl, rfl⟩

theorem BranchPort.restart_eq (p : BranchPort) : p.restart = { p with
    queue := [], datagram := none, assembler := none, slot := none, lastClosed := none, line := p.restartLine.line
    sending := p.restartLine.sending, receiver := p.restartLine.receiver, counters := CounterBank.zero 16 } := by
  unfold BranchPort.restart BranchPort.restartLine BranchPort.clearTraffic
  cases hl : p.line <;> simp [BranchPort.goSettling, hl]

theorem BranchPort.settles_restart (p : BranchPort) : p.Settles p.restart := by
  rw [BranchPort.restart_eq]
  exact settles_of_stopsTo p.stopsTo_restartLine (.of_empty rfl rfl rfl rfl rfl) rfl ⟨rfl, rfl, rfl, rfl⟩

theorem BranchPort.settles_heldLow (p : BranchPort) : p.Settles p.heldLow := by
  refine settles_of_stopsTo ?_ (.of_empty rfl rfl rfl rfl rfl) rfl ⟨rfl, rfl, rfl, rfl⟩
  by_cases hl : p.line = .off
  · exact .inl ⟨hl, by simp [BranchPort.heldLow, BranchPort.clearTraffic, LineState.isOff_iff, hl]⟩
  · exact .inr (.inr (.inr ⟨hl, 0, by simp [BranchPort.heldLow, BranchPort.clearTraffic, LineState.isOff_iff, hl]⟩))

/-! ## Flush, close and reset of a branch (R111, R126) -/

/-- A change of one branch before and after operations that leave the part still. -/
theorem State.evolves_around {s t : State} {b : Branch} {f g : BranchPort → BranchPort} (h : (s.onBranch b f).Still t)
    (hf : (f (s.branch b)).counters = (s.branch b).counters) (hg : (g (t.branch b)).counters = (t.branch b).counters)
    (hb : (s.branch b).Settles (g (t.branch b))) : s.Evolves (t.onBranch b g) := by
  refine ⟨h.map, fun c => ?_, h.trunk, h.ranges, h.waiting⟩
  by_cases hc : c = b
  · subst hc
    have hcounters := (h.branch c).counters
    rw [State.onBranch_same, hf] at hcounters
    rw [State.onBranch_same]
    exact ⟨hb, by rw [hg]; exact hcounters⟩
  · have hother := (h.branch c).evolves
    rw [State.onBranch_of_ne f s hc] at hother
    rw [State.onBranch_of_ne g t hc]
    exact hother

theorem State.evolves_closeBranch (b : Branch) (s : State) : s.Evolves (s.closeBranch b) := by
  have hstill := (s.onBranch b fun p => { p with admission := .closed }).still_flush b
  have hempty := State.flush_empty b (s.onBranch b fun p => { p with admission := .closed })
  have hb := hstill.branch b
  rw [State.onBranch_same] at hb
  exact State.evolves_around hstill rfl rfl (BranchPort.settles_goOff hb.inRange hb.admission hempty)

theorem State.evolves_takeJam (b : Branch) (s : State) : s.Evolves (s.takeJam b) :=
  (s.still_countBranch b _).evolves.trans (State.evolves_closeBranch b _)

theorem State.evolves_resetBranch (b : Branch) (s : State) : s.Evolves (s.resetBranch b) := by
  have hstill := (s.onBranch b BranchPort.orderEmission).still_flush b
  have hempty := State.flush_empty b (s.onBranch b BranchPort.orderEmission)
  have hb := hstill.branch b
  rw [State.onBranch_same, BranchPort.orderEmission_same] at hb
  have hsettles : (s.branch b).Settles ((s.resetBranch b).branch b) := by
    refine BranchPort.settles_of_stopsTo ?_ hb.inRange hb.admission hempty
    have hstop := (s.branch b).stopsTo_orderEmission
    unfold BranchPort.StopsTo at *
    rw [show ((s.resetBranch b).branch b).line = _ from hb.line, show ((s.resetBranch b).branch b).sending = _ from hb.sending]
    exact hstop
  have hid : (s.resetBranch b).onBranch b id = s.resetBranch b := State.onBranch_eq_self rfl
  rw [← hid]
  refine State.evolves_around hstill ?_ rfl hsettles
  rw [BranchPort.orderEmission_same]

theorem State.evolves_openBranch {b : Branch} {a : Admission} {s : State} (hc : (s.branch b).admission = .closed)
    (ha : a ≠ .closed) : s.Evolves (s.openBranch b a) := by
  refine State.evolves_onBranch ⟨⟨id, fun _ => ?_, fun hoff _ => ?_⟩, .refl _⟩
  · exact BranchPort.closedIsOff_of_open ha (by simp [BranchPort.goSettling])
  · obtain ⟨-, -, hasm, -⟩ := hoff.2 hc
    exact ⟨fun ⟨a, h⟩ => (nomatch h), fun _ => .inr (.inr ⟨0, rfl⟩), fun h => absurd hasm h⟩

/-- A branch that is not CLOSED goes over to OPEN or PARKED. -/
theorem BranchPort.settles_admission {p : BranchPort} {a : Admission} (hp : p.admission ≠ .closed) (ha : a ≠ .closed) :
    p.Settles { p with admission := a } where
  inRange := id
  closed := fun h => closedIsOff_of_open ha fun hl => hp (h.1.mpr hl)
  drives := fun _ => id

/-! ## A restart, and a trunk line reset (R143, R147 to R150, R194) -/

/-- The branches settle, and map, trunk and agent are kept. -/
theorem State.evolves_of_branches {s t : State} (hm : t.map = s.map) (ht : t.trunk = s.trunk) (ha : t.agent = s.agent)
    (hw : t.pool.waiting = []) (hb : ∀ b, (s.branch b).Evolves (t.branch b)) : s.Evolves t := by
  refine ⟨fun h => ?_, hb, ht ▸ .refl _, fun h => ?_, fun _ => by rw [hw]; exact List.nodup_nil⟩
  · unfold State.MapSound at *; rw [hm, ha]; exact h
  · unfold State.TrunkInRange at *; rw [ht, ha]; exact h

theorem State.settles_restartTakesEffect (s : State) : s.Settles s.restartTakesEffect := by
  have hbranches : s.Settles { s with branches := s.branches.map BranchPort.restart } :=
    over_branches (fun _ => trivial) BranchPort.settles_restart
  have hpool : ∀ u : State, u.Settles (u.setPool (u.pool.restarted none)) :=
    fun u => (still_setPool fun _ => List.nodup_nil).settles
  have htrunk : ∀ u : State, u.Settles (u.onTrunk TrunkPort.restart) := fun u =>
    ⟨id, fun _ => .refl _, trivial, fun ⟨h1, h2, h3, h4, _⟩ => ⟨h1, h2, h3, h4, Nat.zero_le _⟩, id⟩
  have hagent : ∀ u : State, u.Settles
      (u.setAgent { u.agent with queue := [], restartPending := false, responseVoid := false, left := 0 }) := fun u =>
    (still_setAgent (a := { u.agent with queue := [], restartPending := false, responseVoid := false, left := 0 })
      rfl (fun _ => Nat.zero_le _) fun p hp h => h.2.2.1 p hp).settles
  exact (((hbranches.trans (hpool _)).trans (htrunk _)).trans (hagent _)).trans (State.still_settingEnds _).settles

theorem State.evolves_discardTraffic (s : State) : s.Evolves s.discardTraffic := by
  obtain ⟨htrunk, hagent, hmap, -, hbranch, -, hwaiting⟩ := State.discardTraffic_same s
  have hcoupler : s.discardTraffic.agent.coupler = s.agent.coupler := by rw [hagent]
  refine ⟨fun h => ?_, fun b => ?_, ?_, fun ⟨h1, h2, h3, h4, _⟩ => ?_, fun _ => by rw [hwaiting]; exact List.nodup_nil⟩
  · unfold State.MapSound at *; rw [hmap, hcoupler]; exact h
  · rw [hbranch]
    exact ⟨BranchPort.settles_silentReset _, by rw [BranchPort.silentReset_eq]; exact .refl _⟩
  · rw [htrunk]
    unfold TrunkPort.Rises
    dsimp only
    split
    · exact .refl _
    · exact CounterBank.risesTo_count _ _ _
  · unfold State.TrunkInRange
    rw [htrunk, hagent]
    exact ⟨h1, h2, h3, by simp only [List.length_take]; omega, Nat.zero_le _⟩

theorem State.settles_restartAtReset (s : State) : s.Settles s.restartAtReset := by
  unfold State.restartAtReset
  split
  case isFalse => exact .refl s
  case isTrue =>
    have hbranches : s.Settles { s with branches := s.branches.map BranchPort.zeroBank } :=
      over_branches (fun _ => trivial) fun p => ⟨id, id, fun _ => id⟩
    have htrunk : ∀ u : State, u.Settles (u.onTrunk fun t => { t with counters := CounterBank.zero 13 }) := fun u =>
      ⟨id, fun _ => .refl _, trivial, id, id⟩
    have hpool : ∀ (u : State) k, u.Settles (u.setPool (u.pool.restarted k)) := fun u k =>
      (still_setPool fun _ => by cases k <;> exact List.nodup_nil).settles
    have hagent : ∀ u : State, u.Settles (u.setAgent { u.agent with restartPending := false }) := fun u =>
      (still_setAgent (a := { u.agent with restartPending := false }) rfl id fun p hp h => h.2.2.1 p hp).settles
    exact ((hbranches.trans (htrunk _)).trans (hpool _ _)).trans (hagent _)

/-- The rest of a trunk line reset: BREAKS, the line in BREAK_IN, and the end of a pending setting. -/
theorem State.still_breakIn (s : State) : s.Still ((s.countTrunk .breaks).onTrunk fun t =>
    { t with line := .breakIn, receiver := t.receiver.breakTaken }).settingEnds :=
  ((s.still_countTrunk .breaks).trans (State.Still.trans
    (still_setTrunk (s := s.countTrunk .breaks) (t := { (s.countTrunk .breaks).trunk with
      line := .breakIn, receiver := (s.countTrunk .breaks).trunk.receiver.breakTaken }) (.refl _) rfl rfl id)
    (State.still_settingEnds _)))

theorem State.settles_takeTrunkLineReset (s : State) : s.Settles s.takeTrunkLineReset := by
  rw [State.takeTrunkLineReset_eq]
  exact (s.evolves_discardTraffic.settles.trans (State.settles_restartAtReset _)).trans (State.still_breakIn _).settles

theorem State.evolves_takeTrunkLineReset {s : State} (h : s.agent.restartPending = false) : s.Evolves s.takeTrunkLineReset := by
  have hpending : s.discardTraffic.agent.restartPending = false := by
    obtain ⟨-, hagent, -⟩ := State.discardTraffic_same s
    rw [hagent]
    exact h
  obtain ⟨-, -, -, -, hsame, -⟩ := State.restartAtReset_same s.discardTraffic
  rw [State.takeTrunkLineReset_eq, hsame hpending]
  exact s.evolves_discardTraffic.trans (State.still_breakIn _).evolves

/-! ## The end of a trunk transmission (R141) -/

theorem State.settles_carriedTakesEffect (i : UpItem) (s : State) : s.Settles (s.carriedTakesEffect i) := by
  unfold State.carriedTakesEffect
  split
  · exact .refl s
  · exact s.still_settingTakesEffect.settles
  · exact s.settles_restartTakesEffect
  · exact .refl s

theorem State.evolves_carriedTakesEffect {i : UpItem} (h : ∀ n, i ≠ .frame n .restart) (s : State) :
    s.Evolves (s.carriedTakesEffect i) := by
  unfold State.carriedTakesEffect
  split
  · exact .refl s
  · exact s.still_settingTakesEffect.evolves
  · exact absurd rfl (h _)
  · exact .refl s

theorem State.settles_takeTransmissionEnd (s : State) : s.Settles s.takeTransmissionEnd := by
  unfold State.takeTransmissionEnd
  split
  case h_1 item tx _ =>
    exact ((((s.still_countTrunk .framesOut).trans (State.still_space _)).trans (State.still_releaseItem item _)).settles.trans
      (State.settles_carriedTakesEffect item _)).trans (State.still_space _).settles
  all_goals exact .refl s

theorem State.evolves_takeTransmissionEnd {s : State} (h : ∀ n tx, s.trunk.transmitter ≠ .sending (.frame n .restart) tx) :
    s.Evolves s.takeTransmissionEnd := by
  unfold State.takeTransmissionEnd
  split
  case h_1 item tx hsend =>
    have hitem : ∀ n, item ≠ .frame n .restart := fun n he => h n tx (he ▸ hsend)
    exact ((((s.still_countTrunk .framesOut).trans (State.still_space _)).trans (State.still_releaseItem item _)).evolves.trans
      (State.evolves_carriedTakesEffect hitem _)).trans (State.still_space _).evolves
  all_goals exact .refl s

/-! ## Resets from outside (R167, R168) -/

theorem Agent.powerOn_coupler (sa : BitVec 3) : (Agent.powerOn sa).coupler.toNat = 0xF0 + sa.toNat := by
  revert sa
  decide

theorem State.powerOn_branch (sa : BitVec 3) (tr : BitVec 2) (s : State) (b : Branch) :
    (State.powerOn sa tr s).branch b = BranchPort.powerOn (s.branch b).wave := PerBranch.get_map _ _ b

theorem StationMap.powerOn_get (i : Fin 16) :
    StationMap.powerOn.active.get i = RouteEntry.powerOn ∧ StationMap.powerOn.working.get i = RouteEntry.powerOn := by
  simp [StationMap.powerOn, Vector.get_eq_getElem]

/-- No entry of ACTIVE is valid after power-on reset (R22). -/
theorem State.powerOn_mapSound (sa : BitVec 3) (tr : BitVec 2) (s : State) : (State.powerOn sa tr s).MapSound := by
  have hinvalid : ∀ i, ((State.powerOn sa tr s).map.active.get i).valid ≠ true := fun i => by
    rw [show (State.powerOn sa tr s).map.active.get i = RouteEntry.powerOn from (StationMap.powerOn_get i).1]
    decide
  have hcoupler : (State.powerOn sa tr s).agent.coupler.toNat = 0xF0 + sa.toNat := Agent.powerOn_coupler sa
  have hsa := sa.isLt
  refine ⟨fun i h => absurd h (hinvalid i), fun i j _ h => absurd h (hinvalid i), fun h => ?_, fun h => ?_⟩
  · rw [h] at hcoupler; simp at hcoupler; omega
  · rw [h] at hcoupler; simp at hcoupler; omega

theorem BranchPort.powerOn_inRange (w : List Level) : (BranchPort.powerOn w).InRange := by
  simp [BranchPort.InRange, BranchPort.powerOn, inRange]

theorem BranchPort.powerOn_closedIsOff (w : List Level) : (BranchPort.powerOn w).ClosedIsOff :=
  closedIsOff_of_open (by simp [BranchPort.powerOn]) (by simp [BranchPort.powerOn])

theorem BranchPort.powerOn_drives (w : List Level) : (BranchPort.powerOn w).DrivesWhatItSends :=
  drives_of_silent rfl (by simp [BranchPort.powerOn]) fun h => absurd rfl h

theorem State.settles_powerOn (sa : BitVec 3) (tr : BitVec 2) (s : State) : s.Settles (State.powerOn sa tr s) where
  map := fun _ => State.powerOn_mapSound sa tr s
  branch := fun b => by
    rw [State.powerOn_branch]
    exact ⟨fun _ => BranchPort.powerOn_inRange _, fun _ => BranchPort.powerOn_closedIsOff _,
      fun _ _ => BranchPort.powerOn_drives _⟩
  trunk := trivial
  ranges := fun _ => by
    simp [State.TrunkInRange, State.powerOn, TrunkPort.powerOn, LineSettings.trunkPowerOn, Agent.powerOn, inRange]
  waiting := fun _ => List.nodup_nil

theorem State.evolves_heldLow (s : State) : s.Evolves s.heldLow := by
  have hbranch : ∀ b, s.heldLow.branch b = (s.branch b).heldLow := fun b => PerBranch.get_map _ _ b
  refine ⟨id, fun b => ?_, .refl _, fun ⟨h1, h2, _⟩ => ⟨h1, h2, nofun, Nat.zero_le _, Nat.zero_le _⟩,
    fun _ => List.nodup_nil⟩
  rw [hbranch]
  exact ⟨BranchPort.settles_heldLow _, .refl _⟩

/-! ## A cycle of REFCLK (R154, R155) -/

/-- A sample tick counts a line state on and leaves it the one it is. -/
theorem BranchPort.tickLine_iff (l : Level) (p : BranchPort) :
    (p.tickLine l = .off ↔ p.line = .off) ∧ (p.tickLine l = .hearing ↔ p.line = .hearing) ∧
    ((∃ a, p.tickLine l = .driving a) ↔ ∃ a, p.line = .driving a) ∧
    ((∃ c, p.tickLine l = .settling c) ↔ ∃ c, p.line = .settling c) := by
  unfold BranchPort.tickLine
  split <;> rename_i h <;> simp [h]

/-- What differs in time alone keeps the invariants. -/
theorem BranchPort.settles_of_time {p q : BranchPort} (hr : p.InRange → q.InRange) (ha : q.admission = p.admission)
    (hl : (q.line = .off ↔ p.line = .off) ∧ (q.line = .hearing ↔ p.line = .hearing) ∧
      ((∃ a, q.line = .driving a) ↔ ∃ a, p.line = .driving a) ∧ ((∃ c, q.line = .settling c) ↔ ∃ c, p.line = .settling c))
    (hs : q.sending = none ↔ p.sending = none) (hasm : q.assembler = none ↔ p.assembler = none)
    (hslot : q.slot = none ↔ p.slot = none) (hq : q.queue = p.queue) (hd : q.datagram = p.datagram) : p.Settles q := by
  obtain ⟨hoff, hhearing, hdriving, hsettling⟩ := hl
  refine ⟨hr, fun h => ?_, fun _ h => ?_⟩
  · unfold BranchPort.ClosedIsOff at *
    rw [ha, hoff, hasm, hslot, hq, hd]
    exact h
  · unfold BranchPort.DrivesWhatItSends at *
    rw [hdriving, hoff, hsettling, hhearing, Ne, hs, Ne, hasm]
    exact h

theorem BranchPort.settles_cycle (p : BranchPort) : p.Settles p.cycle := by
  unfold BranchPort.cycle
  dsimp only
  split
  case isTrue =>
    refine settles_of_time id rfl (p.tickLine_iff _) ?_ ?_ ?_ rfl rfl
    · simp [BranchPort.tick]
    · simp [BranchPort.tick]
    · simp [BranchPort.tick]
  case isFalse => exact settles_of_time id rfl (by simp) (by simp) Iff.rfl Iff.rfl rfl rfl

theorem BranchPort.cycle_counters (p : BranchPort) : p.cycle.counters = p.counters := by
  unfold BranchPort.cycle
  dsimp only
  split <;> rfl

/-- A cycle at the trunk counts the receive half, the transmitter and nothing else. -/
theorem TrunkPort.cycle_same (t : TrunkPort) : t.cycle = { t with
    phase := t.cycle.phase, wave := t.cycle.wave, receiver := t.cycle.receiver, line := t.cycle.line
    assembler := t.cycle.assembler, transmitter := t.cycle.transmitter } := by
  unfold TrunkPort.cycle
  dsimp only
  split <;> rfl

theorem State.evolves_cycle (s : State) : s.Evolves s.cycle := by
  have hbranch : ∀ b, s.cycle.branch b = (s.branch b).cycle := fun b => PerBranch.get_map _ _ b
  have htrunk : s.cycle.trunk = s.trunk.cycle := rfl
  refine ⟨id, fun b => ?_, ?_, fun h => ?_, id⟩
  · rw [hbranch]
    exact ⟨BranchPort.settles_cycle _, by rw [BranchPort.cycle_counters]; exact .refl _⟩
  · rw [htrunk, TrunkPort.cycle_same]; exact .refl _
  · unfold State.TrunkInRange
    rw [htrunk, TrunkPort.cycle_same]
    exact h

end Sys2Proof.Machine
end

section
/-! PROOFS. What the commands do to the invariants, and the invariants that every step keeps: O24, O57 to O60. -/

namespace Sys2Proof.Machine

/-! ## Operands that are read (R213) -/

theorem inRange_of_readRange {lo hi v : Nat} {c : Byte} (h : readRange lo hi c = some v) : inRange lo hi v := by
  unfold readRange at h
  split at h
  case isTrue hr => cases h; exact hr
  case isFalse => cases h

theorem gapLimit_of_readLineSettings {ops : List Byte} {ls : LineSettings} (h : readLineSettings ops = some ls) :
    inRange 1 15 ls.gapLimit := by
  unfold readLineSettings at h
  split at h
  case h_1 hg => cases h; exact inRange_of_readRange hg
  case h_2 => cases h

theorem eq_of_readBranch {c : Byte} {b : Branch} (h : readBranch c = some b) : c = byteOf b.number := by
  unfold readBranch at h
  split at h
  case isTrue hc => cases h; exact hc
  case isFalse =>
    split at h
    case isTrue hc => cases h; exact hc
    case isFalse =>
      split at h
      case isTrue hc => cases h; exact hc
      case isFalse =>
        split at h
        case isTrue hc => cases h; exact hc
        case isFalse => cases h

theorem eq_of_readPort {c : Byte} {p : Port} (h : readPort c = some p) : c = byteOf (portNumber p) := by
  unfold readPort at h
  split at h
  case isTrue hc => cases h; exact hc
  case isFalse =>
    obtain ⟨b, hb, rfl⟩ := Option.map_eq_some_iff.mp h
    exact eq_of_readBranch hb

theorem eq_one_of_readFlag {c : Byte} (h : readFlag c = some true) : c = 1 := by
  unfold readFlag at h
  split at h
  case isTrue => cases h
  case isFalse =>
    split at h
    case isTrue hc => exact hc
    case isFalse => cases h

/-! ## The effects of the commands -/

theorem State.still_clearFlags (s : State) : s.Still s.clearFlags := by
  have hbranches : s.Still { s with branches := s.branches.map BranchPort.clearFlag } :=
    over_branches (fun _ => .refl _) fun p => { BranchPort.Still.refl p with }
  exact hbranches.trans (still_setTrunk (t := { s.trunk with counters := s.trunk.counters.clearFlag })
    (fun _ => le_rfl) rfl rfl id)

theorem BranchPort.settles_counters (p : BranchPort) (c : CounterBank 16) : p.Settles { p with counters := c } :=
  ⟨id, id, fun _ => id⟩

theorem State.settles_zeroCounters (p : Port) (s : State) : s.Settles (s.zeroCounters p) := by
  cases p with
  | trunk => exact ⟨id, fun _ => .refl _, trivial, id, id⟩
  | branch b =>
    have hb : (s.branch b).Settles { s.branch b with counters := (s.branch b).counters.zeroCounts } :=
      BranchPort.settles_counters _ _
    exact settles_onBranch (f := fun q => { q with counters := q.counters.zeroCounts }) hb

theorem State.still_setWorking (i : Fin 16) (e : RouteEntry) (s : State) : s.Still (s.setWorking i e) := still_setMap rfl

theorem StationMap.PassesAt.passes {m : StationMap} {coupler : Byte} {i : Fin 16} (h : m.PassesAt coupler i)
    (hv : (m.working.get i).valid = true) : (m.working.get i).aligned = true ∧ (m.working.get i).reserved coupler = false ∧
      ∀ j : Fin 16, j < i → (m.working.get j).valid = true →
        (m.working.get i).trunkOverlap (m.working.get j) = false ∧ (m.working.get i).localOverlap (m.working.get j) = false :=
  h hv

/-- A WORKING table that passes validation is fit to route (R23, R30). -/
theorem State.mapSound_swapTables {s : State} (h : s.map.validate s.agent.coupler = none) (hs : s.MapSound) :
    s.swapTables.MapSound := by
  have hpasses := (s.map.validate_eq_none_iff s.agent.coupler).mp h
  obtain ⟨-, -, hcoupler⟩ := hs
  refine ⟨fun i hi => ?_, fun i j hij hi hj => ?_, hcoupler⟩
  · obtain ⟨hal, hres, -⟩ := (hpasses i).passes hi
    exact ⟨hal, hres⟩
  · obtain ⟨-, -, hlow⟩ := (hpasses j).passes hj
    rw [RouteEntry.trunkOverlap_comm, RouteEntry.localOverlap_comm]
    exact hlow i hij hi

theorem State.evolves_swapTables {s : State} (h : s.map.validate s.agent.coupler = none) : s.Evolves s.swapTables :=
  ⟨State.mapSound_swapTables h, fun _ => .refl _, .refl _, id, id⟩

theorem State.evolves_setLine {ls : LineSettings} {t : Nat} (hls : inRange 1 15 ls.gapLimit) (ht : inRange 1 15 t) (b : Branch)
    (s : State) : s.Evolves (s.onBranch b fun p => { p with settings := ls, turnaround := t }) :=
  evolves_onBranch ⟨⟨fun ⟨_, _, hlimit, hlevel, hqueue⟩ => ⟨hls, ht, hlimit, hlevel, hqueue⟩, id, fun _ h => h⟩, .refl _⟩

theorem State.evolves_setPolicy {q g : Nat} (hq : inRange 1 16 q) (hg : inRange 1 7 g) (o : Bool) (b : Branch) (s : State) :
    s.Evolves (s.onBranch b fun p => { p with queueLimit := q, grantLevel := g, broadcast := o }) :=
  evolves_onBranch ⟨⟨fun ⟨hgap, hturn, _, _, hqueue⟩ => ⟨hgap, hturn, hq, hg, hqueue⟩, id, fun _ h => h⟩, .refl _⟩

theorem State.evolves_setAdmission (b : Branch) (a : Admission) (s : State) : s.Evolves (s.setAdmission b a) := by
  unfold State.setAdmission
  split
  case isTrue => exact .refl s
  case isFalse =>
    split
    case isTrue => exact State.evolves_closeBranch b s
    case isFalse hclose =>
      split
      case isTrue hc => exact State.evolves_openBranch hc hclose
      case isFalse hc => exact evolves_onBranch ⟨BranchPort.settles_admission hc hclose, .refl _⟩

theorem State.evolves_resetUnlessClosed (b : Branch) (s : State) : s.Evolves (s.resetUnlessClosed b) := by
  unfold State.resetUnlessClosed
  split
  case isTrue => exact .refl s
  case isFalse => exact State.evolves_resetBranch b s

theorem State.still_pendSetting {ls : LineSettings} (h : inRange 1 15 ls.gapLimit) (s : State) : s.Still (s.pendSetting ls) :=
  still_setAgent (a := { s.agent with pendingSetting := some { settings := ls, phase := .awaiting } }) rfl id
    fun p hp _ => by cases hp; exact h

/-- A coupler address outside every trunk window of ACTIVE leaves the table fit to route (R23, R190). -/
theorem State.mapSound_setCoupler {a : Byte} {s : State} (hzero : a ≠ 0x00) (hall : a ≠ 0xFF) (hroutes : s.map.routes a ≠ true)
    (hs : s.MapSound) : (s.setCoupler a).MapSound := by
  obtain ⟨hentry, hpair, -⟩ := hs
  have hnone : s.map.lookup a = none := by simpa [StationMap.routes] using hroutes
  refine ⟨fun i hi => ?_, hpair, hzero, hall⟩
  obtain ⟨hal, hres⟩ := hentry i hi
  refine ⟨hal, ?_⟩
  rw [Bool.eq_false_iff, ne_eq, RouteEntry.reserved_iff] at hres ⊢
  have hout := (StationMap.lookup_eq_none_iff _ _).mp hnone i
  rintro (h | h | h | h)
  · exact hres (.inl h)
  · exact hres (.inr (.inl h))
  · exact hout ⟨hi, h⟩
  · exact hres (.inr (.inr (.inr h)))

/-! ## The outcomes of the commands -/

/-- The effects that a command may have, with what its own tests have made sure of (R173, R213). -/
inductive Command.Effects (s : State) : Command → (State → State) → Prop
  | nothing (c : Command) : Effects s c id
  | clearFlags : Effects s .readStatus State.clearFlags
  | zeroCounters (p : Port) : Effects s .readCounters (State.zeroCounters p)
  | setWorking (i : Fin 16) (e : RouteEntry) : Effects s .writeEntry (State.setWorking i e)
  | clearWorking (i : Fin 16) : Effects s .clearEntry (State.clearWorking i)
  | loadWorking : Effects s .loadWorking State.loadWorking
  | swapTables : s.map.validate s.agent.coupler = none → Effects s .commit State.swapTables
  | setAdmission (b : Branch) (a : Admission) : Effects s .setAdmission (State.setAdmission b a)
  | resetBranch (b : Branch) : Effects s .resetBranch (State.resetUnlessClosed b)
  | setLine (b : Branch) (ls : LineSettings) (t : Nat) : inRange 1 15 ls.gapLimit → inRange 1 15 t →
      Effects s .setLine (State.onBranch b fun p => { p with settings := ls, turnaround := t })
  | setPolicy (b : Branch) (q g : Nat) (o : Bool) : inRange 1 16 q → inRange 1 7 g →
      Effects s .setPolicy (State.onBranch b fun p => { p with queueLimit := q, grantLevel := g, broadcast := o })
  | pendSetting (ls : LineSettings) : inRange 1 15 ls.gapLimit → Effects s .trunkSetLine (State.pendSetting ls)
  | setCoupler (a : Byte) : a ≠ 0x00 → a ≠ 0xFF → s.map.routes a ≠ true → Effects s .setAddress (State.setCoupler a)

theorem Command.effects_own (c : Command) (ops : List Byte) (s : State) : c.Effects s (c.own s ops).effect := by
  cases c with
  | readStatus => exact .clearFlags
  | loadWorking => exact .loadWorking
  | identify | echo | unknown => exact .nothing _
  | readCounters =>
    simp only [Command.own, readCountersCompletion]
    split
    case h_1 p clear _ _ =>
      cases clear with
      | true => exact .zeroCounters p
      | false => exact .nothing _
    case h_2 => exact .nothing _
  | readEntry =>
    simp only [Command.own, readEntryCompletion]
    split
    case h_1 => exact .nothing _
    case h_2 => split <;> exact .nothing _
  | restart =>
    simp only [Command.own, restartCompletion]
    split <;> exact .nothing _
  | writeEntry =>
    simp only [Command.own, writeEntryCompletion]
    split
    case h_1 => exact .setWorking _ _
    case h_2 => exact .nothing _
  | clearEntry =>
    simp only [Command.own, clearEntryCompletion]
    split
    case h_1 => exact .clearWorking _
    case h_2 => exact .nothing _
  | commit =>
    simp only [Command.own, commitCompletion]
    split
    case h_1 => exact .nothing _
    case h_2 hvalid => exact .swapTables hvalid
  | setAdmission =>
    simp only [Command.own, setAdmissionCompletion]
    split
    case h_1 => exact .setAdmission _ _
    case h_2 => exact .nothing _
  | resetBranch =>
    simp only [Command.own, resetBranchCompletion]
    split
    case h_1 => exact .resetBranch _
    case h_2 => exact .nothing _
  | setLine =>
    simp only [Command.own, setLineCompletion]
    split
    case h_1 b ls t _ hls ht =>
      split
      case isTrue => exact .setLine b ls t (gapLimit_of_readLineSettings hls) (inRange_of_readRange ht)
      case isFalse => exact .nothing _
    case h_2 => exact .nothing _
  | setPolicy =>
    simp only [Command.own, setPolicyCompletion]
    split
    case h_1 b q g o _ hq hg _ => exact .setPolicy b q g o (inRange_of_readRange hq) (inRange_of_readRange hg)
    case h_2 => exact .nothing _
  | trunkSetLine =>
    simp only [Command.own, trunkSetLineCompletion]
    split
    case h_1 ls hls =>
      split
      case isTrue => exact .nothing _
      case isFalse => exact .pendSetting ls (gapLimit_of_readLineSettings hls)
    case h_2 => exact .nothing _
  | setAddress =>
    simp only [Command.own, setAddressCompletion]
    split
    case isTrue => exact .nothing _
    case isFalse h =>
      obtain ⟨hzero, hall, hroutes⟩ := by simpa only [not_or] using h
      exact .setCoupler _ hzero hall hroutes

/-- READ_COUNTERS alone may lower a counter. -/
theorem Command.Effects.evolves {s : State} {c : Command} {f : State → State} (h : c.Effects s f) (hc : c ≠ .readCounters) :
    s.Evolves (f s) := by
  cases h with
  | nothing => exact .refl s
  | clearFlags => exact s.still_clearFlags.evolves
  | zeroCounters => exact absurd rfl hc
  | setWorking i e => exact (State.still_setWorking i e s).evolves
  | clearWorking i => exact (State.still_setWorking i _ s).evolves
  | loadWorking => exact (State.still_setMap (m := { s.map with working := s.map.active }) rfl).evolves
  | swapTables hvalid => exact State.evolves_swapTables hvalid
  | setAdmission b a => exact State.evolves_setAdmission b a s
  | resetBranch b => exact State.evolves_resetUnlessClosed b s
  | setLine b ls t hls ht => exact State.evolves_setLine hls ht b s
  | setPolicy b q g o hq hg => exact State.evolves_setPolicy hq hg o b s
  | pendSetting ls hls => exact (State.still_pendSetting hls s).evolves
  | setCoupler a hzero hall hroutes =>
    exact ⟨State.mapSound_setCoupler hzero hall hroutes, fun _ => .refl _, .refl _, id, id⟩

theorem evolves_own {c : Command} (hc : c ≠ .readCounters) (ops : List Byte) (s : State) :
    s.Evolves ((c.own s ops).effect s) := (c.effects_own ops s).evolves hc

theorem settles_own (c : Command) (ops : List Byte) (s : State) : s.Settles ((c.own s ops).effect s) := by
  have h := c.effects_own ops s
  by_cases hc : c = .readCounters
  · subst hc
    generalize (Command.own .readCounters s ops).effect = f at h
    cases h with
    | nothing => exact .refl s
    | zeroCounters p => exact State.settles_zeroCounters p s
  · exact (h.evolves hc).settles

theorem evolves_readCounters {ops : List Byte} (hlen : ops.length = 2) (h : ∀ p, ops ≠ [byteOf (portNumber p), 1]) (s : State) :
    s.Evolves ((readCountersCompletion s ops).effect s) := by
  match ops, hlen with
  | [x, y], _ =>
    unfold readCountersCompletion
    split
    case h_1 p clear hport hflag =>
      cases clear with
      | false => exact .refl s
      | true =>
        have hx : x = byteOf (portNumber p) := eq_of_readPort hport
        have hy : y = 1 := eq_one_of_readFlag hflag
        exact absurd (by rw [hx, hy]) (h p)
    case h_2 => exact .refl s

/-- RESTART alone is answered by a response that carries the restart, and only while none is pending (R192). -/
theorem carry_restart_of_own {c : Command} {ops : List Byte} {s : State} (h : (c.own s ops).carry = .restart) :
    c = .restart ∧ s.agent.restartPending = false := by
  cases c with
  | restart =>
    simp only [Command.own, restartCompletion] at h
    split at h
    case isTrue => cases h
    case isFalse hp => exact ⟨rfl, by simpa using hp⟩
  | readStatus | loadWorking | identify | echo | unknown => cases h
  | readEntry =>
    simp only [Command.own, readEntryCompletion] at h
    split at h
    case h_1 => cases h
    case h_2 => split at h <;> cases h
  | setLine =>
    simp only [Command.own, setLineCompletion] at h
    split at h
    case h_1 => split at h <;> cases h
    case h_2 => cases h
  | trunkSetLine =>
    simp only [Command.own, trunkSetLineCompletion] at h
    split at h
    case h_1 => split at h <;> cases h
    case h_2 => cases h
  | readCounters => simp only [Command.own, readCountersCompletion] at h; split at h <;> cases h
  | writeEntry => simp only [Command.own, writeEntryCompletion] at h; split at h <;> cases h
  | clearEntry => simp only [Command.own, clearEntryCompletion] at h; split at h <;> cases h
  | commit => simp only [Command.own, commitCompletion] at h; split at h <;> cases h
  | setAdmission => simp only [Command.own, setAdmissionCompletion] at h; split at h <;> cases h
  | setPolicy => simp only [Command.own, setPolicyCompletion] at h; split at h <;> cases h
  | resetBranch => simp only [Command.own, resetBranchCompletion] at h; split at h <;> cases h
  | setAddress => simp only [Command.own, setAddressCompletion] at h; split at h <;> cases h

/-- A command that fails the tests of its code and count changes nothing, and any other has its own outcome (R173). -/
theorem State.outcome_cases (s : State) (c : Command) (n : BufferId) :
    ((s.outcome c n).effect = id ∧ (s.outcome c n).carry = .nothing) ∨
      (c.takes (commandOperands (s.chars n)).length = true ∧ s.outcome c n = c.own s (commandOperands (s.chars n))) := by
  by_cases hc : c = .unknown
  · subst hc; exact .inl ⟨rfl, rfl⟩
  · by_cases ht : c.takes (commandOperands (s.chars n)).length = true
    · exact .inr ⟨ht, State.outcome_of_takes rfl hc ht⟩
    · refine .inl ?_
      have heq : s.outcome c n = Completion.only { result := .wrongLength, data := [] } := by
        unfold State.outcome Command.judge
        split
        case h_1 => exact absurd rfl hc
        case h_2 => exact if_neg ht
      rw [heq]
      exact ⟨rfl, rfl⟩

/-! ## The completion of a command (R171 to R176) -/

theorem State.settles_takesEffectNow (c : Carry) (s : State) : s.Settles (s.takesEffectNow c) := by
  cases c with
  | nothing => exact .refl s
  | setting => exact s.still_settingTakesEffect.settles
  | restart => exact s.settles_restartTakesEffect

theorem State.evolves_takesEffectNow {c : Carry} (h : c ≠ .restart) (s : State) : s.Evolves (s.takesEffectNow c) := by
  cases c with
  | nothing => exact .refl s
  | setting => exact s.still_settingTakesEffect.evolves
  | restart => exact absurd rfl h

theorem State.settles_finish (n : BufferId) (x : Completion) (s : State) : s.Settles (s.finish n x) := by
  unfold State.finish
  split
  case isTrue => exact ((State.still_respond _ _ _ s).trans (State.still_leavePending _ _)).settles
  case isFalse => exact (State.still_free n s).settles.trans (State.settles_takesEffectNow _ _)

theorem State.evolves_finish {n : BufferId} {x : Completion} {s : State} (h : x.carry = .restart → s.answers n = true) :
    s.Evolves (s.finish n x) := by
  unfold State.finish
  split
  case isTrue => exact ((State.still_respond _ _ _ s).trans (State.still_leavePending _ _)).evolves
  case isFalse ha => exact (State.still_free n s).evolves.trans (State.evolves_takesEffectNow (fun hc => ha (h hc)) _)

theorem State.settles_complete {n : BufferId} {x : Completion} {s : State} (h : s.Settles (x.effect s)) :
    s.Settles (s.complete n x) :=
  ((h.trans (State.still_countTrunk _ _).settles).trans (State.settles_finish n x _)).trans (State.still_nextCommand _).settles

theorem State.evolves_complete {n : BufferId} {x : Completion} {s : State} (h : s.Evolves (x.effect s))
    (hc : x.carry = .restart → ((x.effect s).countTrunk .mgmtCommands).answers n = true) : s.Evolves (s.complete n x) :=
  ((h.trans (State.still_countTrunk _ _).evolves).trans (State.evolves_finish hc)).trans (State.still_nextCommand _).evolves

theorem State.settles_completeAs {c : Command} {s : State} (h : s.executes c = true) : s.Settles (s.completeAs c c.own) := by
  obtain ⟨n, rest, -, -, he⟩ := State.completeAs_of_executes h
  rw [he]
  apply State.settles_complete
  rcases s.outcome_cases c n with ⟨hid, -⟩ | ⟨-, ho⟩
  · rw [hid]; exact .refl s
  · rw [ho]; exact settles_own c _ s

/-- The completion of a command lowers no counter, but for a READ_COUNTERS that clears and a RESTART that is not answered. -/
theorem State.evolves_completeAs {c : Command} {s : State} (h : s.executes c = true)
    (hread : c = .readCounters → ∀ n rest p, s.agent.queue = n :: rest →
      commandOperands (s.chars n) ≠ [byteOf (portNumber p), 1])
    (hrestart : c = .restart → ∀ n rest, s.agent.queue = n :: rest → commandOperands (s.chars n) = [] →
      s.agent.restartPending = false → s.Answers n) : s.Evolves (s.completeAs c c.own) := by
  obtain ⟨n, rest, hq, -, he⟩ := State.completeAs_of_executes h
  rw [he]
  rcases s.outcome_cases c n with ⟨hid, hcarry⟩ | ⟨htakes, ho⟩
  · exact State.evolves_complete (by rw [hid]; exact .refl s) (by rw [hcarry]; nofun)
  · rw [ho]
    refine State.evolves_complete ?_ fun hcarry => ?_
    · by_cases hc : c = .readCounters
      · subst hc
        exact evolves_readCounters (by simpa [Command.takes] using htakes) (fun p => hread rfl n rest p hq) s
      · exact evolves_own hc _ s
    · obtain ⟨rfl, hpending⟩ := carry_restart_of_own hcarry
      have hops : commandOperands (s.chars n) = [] := by simpa [Command.takes] using htakes
      have hanswers : s.answers n = true := by simpa [State.answers, State.Answers] using hrestart rfl n rest hq hops hpending
      rw [hops]
      simpa [Command.own, restartCompletion, hpending, State.answers, State.desc] using hanswers

end Sys2Proof.Machine
end

section
/-! PROOFS. The invariants that every step keeps and the counters that no event lowers: O24, O57 to O60. -/

namespace Sys2Proof.Machine

/-! ## What an event may do -/

/-- The rows at which a counter may fall: those of R205 and R207 but the power-on reset. -/
def mayClear : Instr → Bool
  | .readCounters => true
  | .transmissionEnd => true
  | .trunkLineReset => true
  | .restart => true
  | _ => false

theorem State.evolves_command {c : Command} {s : State} (h : s.executes c = true) (hc : c ≠ .readCounters) (hr : c ≠ .restart) :
    s.Evolves (s.completeAs c c.own) :=
  State.evolves_completeAs h (fun e => absurd e hc) fun e => absurd e hr

theorem State.delivers_of_takesEdge {s : State} {p : Port} (h : s.takesEdge p = true) : s.delivers p = true := by
  unfold State.takesEdge at h
  exact (Bool.and_eq_true_iff.mp h).1

theorem State.isHearing_of_takesFalseStart {s : State} {p : Port} (h : s.takesFalseStart p = true) : s.isHearing p = true := by
  unfold State.takesFalseStart at h
  exact (Bool.and_eq_true_iff.mp h).1

theorem State.evolves_effect {s : State} {i : Instr} (h : s.possible i = true) (hi : mayClear i = false) :
    s.Evolves (s.effect i) := by
  cases i with
  | powerOnReset | rstLow | addressCharacter => cases h
  | readCounters | transmissionEnd | trunkLineReset | restart => cases hi
  | dataCharacter p v noisy damaged => exact State.evolves_takeData h v noisy damaged
  | gapTimerExpiry p => exact State.evolves_takeGapTimerExpiry p s
  | grant => exact s.still_takeGrant.evolves
  | sendStart b => exact State.evolves_takeSendStart h
  | endOfTransmission b => exact State.evolves_takeEndOfTransmission h
  | replyTimerExpiry b => exact (State.still_takeReplyTimerExpiry b s).evolves
  | datagramStart b => exact State.evolves_takeDatagramStart h
  | datagramEnd b => exact State.evolves_takeDatagramEnd h
  | stoppedCharacterEnd p => exact State.evolves_takeStoppedCharacterEnd h
  | breakHeard b => exact State.evolves_takeBreak h
  | breakEnd p => exact State.evolves_settle h
  | settlingEnd p => exact State.evolves_takeSettlingEnd h
  | jam b => exact State.evolves_takeJam b s
  | breakEmissionEnd b => exact State.evolves_breakEmissionEnd h
  | spacingEnd => exact s.still_takeSpacingEnd.evolves
  | startBitLeadingEdge p => exact State.evolves_takeStartBit (State.delivers_of_takesEdge h)
  | falseStart p => exact State.evolves_takeFalseStart (State.isHearing_of_takesFalseStart h)
  | identify => exact State.evolves_command (c := .identify) h nofun nofun
  | readStatus => exact State.evolves_command (c := .readStatus) h nofun nofun
  | readEntry => exact State.evolves_command (c := .readEntry) h nofun nofun
  | writeEntry => exact State.evolves_command (c := .writeEntry) h nofun nofun
  | clearEntry => exact State.evolves_command (c := .clearEntry) h nofun nofun
  | loadWorking => exact State.evolves_command (c := .loadWorking) h nofun nofun
  | commit => exact State.evolves_command (c := .commit) h nofun nofun
  | setAdmission => exact State.evolves_command (c := .setAdmission) h nofun nofun
  | setLine => exact State.evolves_command (c := .setLine) h nofun nofun
  | trunkSetLine => exact State.evolves_command (c := .trunkSetLine) h nofun nofun
  | setPolicy => exact State.evolves_command (c := .setPolicy) h nofun nofun
  | resetBranch => exact State.evolves_command (c := .resetBranch) h nofun nofun
  | setAddress => exact State.evolves_command (c := .setAddress) h nofun nofun
  | echo => exact State.evolves_command (c := .echo) h nofun nofun
  | unknownCommand => exact State.evolves_command (c := .unknown) h nofun nofun

theorem State.settles_effect {s : State} {i : Instr} (h : s.possible i = true) : s.Settles (s.effect i) := by
  cases hi : mayClear i with
  | false => exact (State.evolves_effect h hi).settles
  | true =>
    cases i with
    | readCounters => exact State.settles_completeAs (c := .readCounters) h
    | restart => exact State.settles_completeAs (c := .restart) h
    | transmissionEnd => exact s.settles_takeTransmissionEnd
    | trunkLineReset => exact s.settles_takeTrunkLineReset
    | _ => cases hi

theorem Leads.settles {s t : State} {i : Instr} (h : Leads s i t) : s.Settles t := by
  cases h with
  | kept => exact .refl s
  | powerOn sa tr => exact s.settles_powerOn sa tr
  | heldLow => exact s.evolves_heldLow.settles
  | address p v noisy damaged u hd hu => exact (State.evolves_takeAddress hd hu).settles.trans u.still_updateWaiting.settles
  | event _ _ hp => exact (State.settles_effect hp).trans (State.still_updateWaiting _).settles

/-- What Settles keeps is kept at every step. -/
theorem step_preserves_of_settles {P : State → Prop} (hkeeps : ∀ {s t : State}, s.Settles t → P s → P t) {s t : State}
    (hs : P s) (h : step s = .next t) : P t :=
  step_preserves (fun s q k => hkeeps (s.still_model q k).settles) (fun s => hkeeps s.evolves_cycle.settles)
    (fun _ _ _ hleads => hkeeps hleads.settles) hs h

/-! ## The counters (R200, R205, R207) -/

theorem State.executing_of_executes {s : State} {c : Command} {n : BufferId} {rest : List BufferId} (hrst : s.rstLow = false)
    (h : s.executes c = true) (hq : s.agent.queue = n :: rest) : s.Executing c n rest :=
  ⟨hrst, hq, by simpa [State.executes, hq] using h⟩

/-- Settles O24: every row raises the counters or keeps them, but those of `mayClear`, which do so where the hypotheses say. -/
theorem countersFallOnlyByClearing : Obligations.CountersFallOnlyByClearing := by
  unfold Obligations.CountersFallOnlyByClearing
  intro s t i h hpower hread hend htrunk hrestart
  refine State.Evolves.countersRise ?_
  cases leads_of_exec h with
  | kept => exact .refl s
  | powerOn sa tr => exact absurd rfl (hpower sa tr)
  | heldLow => exact s.evolves_heldLow
  | address p v noisy damaged u hd hu => exact (State.evolves_takeAddress hd hu).trans u.still_updateWaiting.evolves
  | event _ hrst hp =>
    refine State.Evolves.trans ?_ (State.still_updateWaiting _).evolves
    cases hi : mayClear i with
    | false => exact State.evolves_effect hp hi
    | true =>
      cases i with
      | readCounters =>
        exact State.evolves_completeAs (c := .readCounters) hp
          (fun _ n rest p hq => hread rfl n rest p (State.executing_of_executes hrst hp hq)) nofun
      | restart =>
        exact State.evolves_completeAs (c := .restart) hp nofun
          fun _ n rest hq => hrestart rfl n rest (State.executing_of_executes hrst hp hq)
      | transmissionEnd => exact State.evolves_takeTransmissionEnd (hend rfl)
      | trunkLineReset => exact State.evolves_takeTrunkLineReset (htrunk rfl)
      | _ => cases hi

/-! ## ACTIVE (R23, R189) -/

/-- The addresses of a window are none of those that R23 bars. -/
theorem RouteEntry.reserved_eq_false_iff (e : RouteEntry) (coupler : Byte) : e.reserved coupler = false ↔
    (∀ a, e.trunkBase.toNat ≤ a ∧ a < e.trunkBase.toNat + 2 ^ e.sizeCode.val → a ≠ 0 ∧ a ≠ 255 ∧ a ≠ coupler.toNat) ∧
    ∀ a, e.localBase.toNat ≤ a ∧ a < e.localBase.toNat + 2 ^ e.sizeCode.val → a ≠ 0 ∧ a ≠ 255 := by
  rw [Bool.eq_false_iff, ne_eq, RouteEntry.reserved_iff]
  simp only [RouteEntry.holdsTrunk_iff, RouteEntry.holdsLocal_iff]
  constructor
  · intro h
    refine ⟨fun a ha => ⟨?_, ?_, ?_⟩, fun a ha => ⟨?_, ?_⟩⟩ <;> rintro rfl
    · exact h (.inl ha)
    · exact h (.inr (.inl ha))
    · exact h (.inr (.inr (.inl ha)))
    · exact h (.inr (.inr (.inr (.inl ha))))
    · exact h (.inr (.inr (.inr (.inr ha))))
  · rintro ⟨htrunk, hlocal⟩ (h | h | h | h | h)
    · exact (htrunk _ h).1 rfl
    · exact (htrunk _ h).2.1 rfl
    · exact (htrunk _ h).2.2 rfl
    · exact (hlocal _ h).1 rfl
    · exact (hlocal _ h).2 rfl

theorem RouteEntry.trunkOverlap_eq_false_iff (e f : RouteEntry) : e.trunkOverlap f = false ↔ ∀ a,
    ¬ ((e.trunkBase.toNat ≤ a ∧ a < e.trunkBase.toNat + 2 ^ e.sizeCode.val) ∧
      (f.trunkBase.toNat ≤ a ∧ a < f.trunkBase.toNat + 2 ^ f.sizeCode.val)) := by
  rw [Bool.eq_false_iff, ne_eq, RouteEntry.trunkOverlap_iff, not_exists]

theorem RouteEntry.localOverlap_eq_false_iff (e f : RouteEntry) : e.localOverlap f = false ↔ (e.branch = f.branch → ∀ a,
    ¬ ((e.localBase.toNat ≤ a ∧ a < e.localBase.toNat + 2 ^ e.sizeCode.val) ∧
      (f.localBase.toNat ≤ a ∧ a < f.localBase.toNat + 2 ^ f.sizeCode.val))) := by
  rw [Bool.eq_false_iff, ne_eq, RouteEntry.localOverlap_iff, not_and, not_exists]

/-- Settles O57: every operation moves the map only as Settles allows, and R23 in arithmetic is MapSound test by test. -/
theorem activeTableStaysSound : Obligations.ActiveTableStaysSound := by
  unfold Obligations.ActiveTableStaysSound
  refine ⟨fun s t hs h => step_preserves_of_settles (P := State.MapSound) (fun hst => hst.map) hs h, fun s => ?_⟩
  have hcoupler : (s.agent.coupler ≠ 0x00 ∧ s.agent.coupler ≠ 0xFF) ↔
      (1 ≤ s.agent.coupler.toNat ∧ s.agent.coupler.toNat ≤ 254) := by
    have := s.agent.coupler.isLt
    rw [ne_eq, ne_eq, ← BitVec.toNat_inj, ← BitVec.toNat_inj]
    simp only [BitVec.ofNat_eq_ofNat, BitVec.toNat_ofNat]
    omega
  unfold State.MapSound
  refine and_congr (forall_congr' fun i => imp_congr_right fun _ => ?_) (and_congr ?_ hcoupler)
  · rw [RouteEntry.aligned_iff, RouteEntry.reserved_eq_false_iff, and_assoc]
  · refine forall_congr' fun i => forall_congr' fun j => imp_congr_right fun _ => imp_congr_right fun _ =>
      imp_congr_right fun _ => ?_
    rw [RouteEntry.trunkOverlap_eq_false_iff, RouteEntry.localOverlap_eq_false_iff]

/-! ## Lines and ranges (R43, R106, R111, R114 to R116, R124, R137, R171) -/

/-- Settles O58: every operation moves a branch only as Settles allows. -/
theorem closedBranchesStayEmptyAndOff : Obligations.ClosedBranchesStayEmptyAndOff := by
  unfold Obligations.ClosedBranchesStayEmptyAndOff
  refine ⟨fun s t hs h => step_preserves_of_settles (P := State.ClosedIsOff) (fun hst => hst.closedIsOff) hs h,
    fun s t hc hd h => ?_⟩
  have hboth := step_preserves_of_settles (P := fun s => s.ClosedIsOff ∧ s.DrivesWhatItSends)
    (fun hst ⟨hc, hd⟩ => ⟨hst.closedIsOff hc, hst.drives hc hd⟩) ⟨hc, hd⟩ h
  exact hboth.2

/-- Settles O60: every operation moves settings and queues only as Settles allows. -/
theorem settingsAndQueuesStayInRange : Obligations.SettingsAndQueuesStayInRange := fun _ _ hs h =>
  step_preserves_of_settles (P := State.InRange) (fun hst => hst.inRange) hs h

/-! ## The waiting set (R97) -/

/-- The waiting set after an event is that of R97: who stayed, in order, then who joined. -/
theorem State.mem_updateWaiting_iff (s : State) (b : Branch) :
    b ∈ s.updateWaiting.pool.waiting ↔ s.updateWaiting.eligible b = true := by
  rw [State.updateWaiting_waiting]
  simp only [List.mem_append, List.mem_filter, Bool.and_eq_true, Bool.not_eq_true', List.contains_eq_mem,
    decide_eq_false_iff_not, Branch.mem_all, true_and]
  constructor
  · rintro (⟨-, h⟩ | ⟨h, -⟩) <;> exact h
  · intro h
    by_cases hb : b ∈ s.pool.waiting
    · exact .inl ⟨hb, h⟩
    · exact .inr ⟨h, fun hmem => hb hmem.1⟩

theorem State.eligible_iff (s : State) (b : Branch) : s.eligible b = true ↔
    (∃ n rest, (s.branch b).queue = n :: rest ∧ (s.desc n).kind = .request) ∧ (s.branch b).slot = none ∧
      (s.branch b).admission ≠ .closed ∧ (s.branch b).line ≠ .off := by
  have hhead : s.headIsRequest b = true ↔ ∃ n rest, (s.branch b).queue = n :: rest ∧ (s.desc n).kind = .request := by
    unfold State.headIsRequest
    cases (s.branch b).queue with
    | nil => simp
    | cons n rest => simp
  have hoff : (s.branch b).line.isOff = false ↔ (s.branch b).line ≠ .off := by
    rw [Bool.eq_false_iff, ne_eq, LineState.isOff_iff]
  simp only [State.eligible, Bool.and_eq_true, hhead, Option.isNone_iff_eq_none, Bool.not_eq_true', hoff, and_assoc,
    beq_eq_false_iff_ne]

theorem State.not_eligible_of_empty {s : State} {b : Branch} (h : (s.branch b).queue = []) : s.eligible b = false := by
  simp [State.eligible, State.headIsRequest, h]

theorem State.waitingSettled_of_empty {s : State} (hw : s.pool.waiting = []) (hq : ∀ b, (s.branch b).queue = []) :
    s.WaitingSettled := by
  refine ⟨fun b => ?_, by rw [hw]; exact List.nodup_nil⟩
  rw [hw, State.not_eligible_of_empty (hq b)]
  simp

/-- No condition of the waiting set changes with time alone. -/
theorem State.cycle_eligible (s : State) (b : Branch) : s.cycle.eligible b = s.eligible b := by
  have hbranch : s.cycle.branch b = (s.branch b).cycle := PerBranch.get_map _ _ b
  have hsame : (s.branch b).cycle.queue = (s.branch b).queue ∧ (s.branch b).cycle.admission = (s.branch b).admission ∧
      ((s.branch b).cycle.slot = none ↔ (s.branch b).slot = none) ∧
      ((s.branch b).cycle.line = .off ↔ (s.branch b).line = .off) := by
    unfold BranchPort.cycle
    dsimp only
    split
    case isTrue => exact ⟨rfl, rfl, by simp [BranchPort.tick], (BranchPort.tickLine_iff _ _).1⟩
    case isFalse => exact ⟨rfl, rfl, Iff.rfl, Iff.rfl⟩
  obtain ⟨hqueue, hadm, hslot, hline⟩ := hsame
  rw [Bool.eq_iff_iff, State.eligible_iff, State.eligible_iff, hbranch, hqueue, hadm, hslot, ne_eq _ LineState.off, hline]
  rfl

theorem Leads.waitingSettled {s t : State} {i : Instr} (h : Leads s i t) (hs : s.WaitingSettled) : t.WaitingSettled := by
  have hnodup := h.settles.waiting hs.2
  cases h with
  | kept => exact hs
  | powerOn sa tr => exact State.waitingSettled_of_empty rfl fun b => by rw [State.powerOn_branch]; rfl
  | heldLow =>
    have hbranch : ∀ b, s.heldLow.branch b = (s.branch b).heldLow := fun b => PerBranch.get_map _ _ b
    exact State.waitingSettled_of_empty rfl fun b => by rw [hbranch]; rfl
  | address => exact ⟨State.mem_updateWaiting_iff _, hnodup⟩
  | event => exact ⟨State.mem_updateWaiting_iff _, hnodup⟩

/-- Settles O59: after every event the set follows from the conditions, and time alone changes none of them. -/
theorem waitingSetStaysSettled : Obligations.WaitingSetStaysSettled := by
  unfold Obligations.WaitingSetStaysSettled
  intro s t hs h
  refine step_preserves (P := State.WaitingSettled) (fun _ _ _ hs => hs) (fun s hs => ?_)
    (fun _ _ _ hleads => hleads.waitingSettled) hs h
  exact ⟨fun b => by rw [State.cycle_eligible]; exact hs.1 b, hs.2⟩

end Sys2Proof.Machine
end

section
/-! PROOFS. What the operations do to the free list, the reservation count and the slots that hold a reservation (R94, R95). An
operation keeps them, with no fewer buffers free, or else the count moves with the slot of one branch. -/

namespace Sys2Proof.Machine

/-! ## Reservations counted by branch -/

/-- The reservations that the slot of a branch holds: 0 or 1. -/
def State.held (s : State) (b : Branch) : Nat := (s.branch b).holdsReservation.toNat

theorem State.reservedSlots_eq (s : State) : s.reservedSlots = s.held .b1 + s.held .b2 + s.held .b3 + s.held .b4 := by
  have hcount : ∀ p : Branch → Bool, (Branch.all.filter p).length = (p .b1).toNat + (p .b2).toNat + (p .b3).toNat + (p .b4).toNat := by
    intro p
    simp only [Branch.all, ← List.countP_eq_length_filter, List.countP_cons, List.countP_nil, Nat.zero_add]
    simp only [Bool.toNat, Bool.cond_eq_ite]
    omega
  exact hcount _

theorem State.held_of_slot {s : State} {b : Branch} {x : Slot} (h : (s.branch b).slot = some x) :
    s.held b = x.phase.holdsReservation.toNat := by
  simp only [State.held, BranchPort.holdsReservation, h]

theorem State.held_of_empty {s : State} {b : Branch} (h : (s.branch b).slot = none) : s.held b = 0 := by
  simp only [State.held, BranchPort.holdsReservation, h]
  rfl

theorem State.held_le_reservedSlots (s : State) (b : Branch) : s.held b ≤ s.reservedSlots := by
  rw [State.reservedSlots_eq]
  cases b <;> omega

/-- No reservation is given out and every slot is EMPTY. -/
theorem State.backed_of_empty {s : State} (hr : s.pool.reserved = 0) (hslot : ∀ b, (s.branch b).slot = none) :
    s.ReservationsBacked := by
  refine ⟨?_, by omega⟩
  rw [State.reservedSlots_eq]
  simp only [State.held_of_empty (hslot _), hr]

/-! ## Operations that keep every reservation -/

/-- No fewer buffers are free, the reservation count stays, and no slot takes or gives a reservation. -/
structure State.Keeps (s t : State) : Prop where
  free : s.freeCount ≤ t.freeCount
  reserved : t.pool.reserved = s.pool.reserved
  held : ∀ b, t.held b = s.held b

theorem State.Keeps.refl (s : State) : s.Keeps s := ⟨le_rfl, rfl, fun _ => rfl⟩

theorem State.Keeps.trans {s t u : State} (h : s.Keeps t) (h' : t.Keeps u) : s.Keeps u :=
  ⟨h.free.trans h'.free, h'.reserved.trans h.reserved, fun b => (h'.held b).trans (h.held b)⟩

/-- The reservations stay backed. -/
def State.Backs (s t : State) : Prop := s.ReservationsBacked → t.ReservationsBacked

theorem State.Backs.trans {s t u : State} (h : s.Backs t) (h' : t.Backs u) : s.Backs u := h' ∘ h

theorem State.Keeps.backs {s t : State} (h : s.Keeps t) : s.Backs t := by
  rintro ⟨hcount, hfree⟩
  refine ⟨?_, ?_⟩
  · rw [h.reserved, hcount, State.reservedSlots_eq, State.reservedSlots_eq]
    simp only [h.held]
  · rw [h.reserved]
    exact hfree.trans h.free

theorem State.Backs.refl (s : State) : s.Backs s := id

/-- The reservation count moves with the slot of one branch. -/
theorem State.backs_of_change {s t : State} (b : Branch) (hother : ∀ c, c ≠ b → t.held c = s.held c)
    (h : s.pool.reserved ≤ s.freeCount → s.held b ≤ s.pool.reserved →
      t.pool.reserved + s.held b = s.pool.reserved + t.held b ∧ t.pool.reserved ≤ t.freeCount) : s.Backs t := by
  rintro ⟨hcount, hfree⟩
  obtain ⟨hmove, hroom⟩ := h hfree (hcount ▸ s.held_le_reservedSlots b)
  refine ⟨?_, hroom⟩
  rw [State.reservedSlots_eq] at hcount ⊢
  cases b with
  | b1 =>
    have h2 := hother .b2 (by decide); have h3 := hother .b3 (by decide); have h4 := hother .b4 (by decide)
    omega
  | b2 =>
    have h1 := hother .b1 (by decide); have h3 := hother .b3 (by decide); have h4 := hother .b4 (by decide)
    omega
  | b3 =>
    have h1 := hother .b1 (by decide); have h2 := hother .b2 (by decide); have h4 := hother .b4 (by decide)
    omega
  | b4 =>
    have h1 := hother .b1 (by decide); have h2 := hother .b2 (by decide); have h3 := hother .b3 (by decide)
    omega

/-! ## Writing one part -/

theorem State.held_of_branch {s t : State} {b : Branch} (h : (t.branch b).slot = (s.branch b).slot) : t.held b = s.held b := by
  simp only [State.held, BranchPort.holdsReservation, h]

theorem State.keeps_of_same {s t : State} (hp : t.pool = s.pool) (hb : t.branches = s.branches) : s.Keeps t :=
  ⟨by rw [State.freeCount, State.freeCount, hp], by rw [hp],
    fun b => State.held_of_branch (by rw [State.branch, State.branch, hb])⟩

theorem State.keeps_onBranch {s : State} {b : Branch} {f : BranchPort → BranchPort}
    (h : (f (s.branch b)).slot = (s.branch b).slot) : s.Keeps (s.onBranch b f) := by
  refine ⟨le_rfl, rfl, fun c => State.held_of_branch ?_⟩
  by_cases hc : c = b
  · subst hc; rw [State.onBranch_same]; exact h
  · rw [State.onBranch_of_ne f s hc]

theorem State.keeps_branches {s : State} {f : BranchPort → BranchPort} (h : ∀ p, (f p).slot = p.slot) :
    s.Keeps { s with branches := s.branches.map f } := by
  refine ⟨le_rfl, rfl, fun c => State.held_of_branch ?_⟩
  have hc : ({ s with branches := s.branches.map f } : State).branch c = f (s.branch c) := PerBranch.get_map f s.branches c
  rw [hc]
  exact h _

theorem State.keeps_setTrunk (s : State) (t : TrunkPort) : s.Keeps (s.setTrunk t) := keeps_of_same rfl rfl
theorem State.keeps_onTrunk (s : State) (f : TrunkPort → TrunkPort) : s.Keeps (s.onTrunk f) := keeps_of_same rfl rfl
theorem State.keeps_setAgent (s : State) (a : Agent) : s.Keeps (s.setAgent a) := keeps_of_same rfl rfl
theorem State.keeps_setMap (s : State) (m : StationMap) : s.Keeps (s.setMap m) := keeps_of_same rfl rfl

/-! ## The shared operations -/

theorem State.keeps_setBuffer (n : BufferId) (x : Buffer) (s : State) : s.Keeps (State.setBuffer n x s) :=
  ⟨le_rfl, rfl, fun _ => rfl⟩

theorem State.free_freeCount (n : BufferId) (s : State) : (s.free n).freeCount = s.freeCount + 1 := by
  simp [State.freeCount]

theorem State.keeps_free (n : BufferId) (s : State) : s.Keeps (s.free n) :=
  ⟨by rw [State.free_freeCount]; exact Nat.le_succ _, rfl, fun _ => rfl⟩

theorem State.keeps_free? (n : Option BufferId) (s : State) : s.Keeps (s.free? n) := by
  cases n with
  | none => exact .refl s
  | some n => exact s.keeps_free n

theorem State.keeps_releaseRef (n : BufferId) (s : State) : s.Keeps (s.releaseRef n) := by
  unfold State.releaseRef
  dsimp only
  split
  · exact s.keeps_free n
  · exact s.keeps_setBuffer n _

theorem State.keeps_releaseRef? (n : Option BufferId) (s : State) : s.Keeps (s.releaseRef? n) := by
  cases n with
  | none => exact .refl s
  | some n => exact s.keeps_releaseRef n

theorem State.keeps_foldl {α : Type} {f : State → α → State} (h : ∀ (s : State) x, s.Keeps (f s x)) (l : List α) :
    ∀ s : State, s.Keeps (l.foldl f s) := by
  induction l with
  | nil => exact fun s => .refl s
  | cons x l ih => exact fun s => (h s x).trans (ih (f s x))

theorem State.keeps_updateWaiting (s : State) : s.Keeps s.updateWaiting := ⟨le_rfl, rfl, fun _ => rfl⟩

theorem State.keeps_countBranch (b : Branch) (c : BranchCounter) (s : State) : s.Keeps (s.countBranch b c) :=
  keeps_onBranch rfl

theorem State.keeps_countPort (p : Port) (c : PortCounter) (s : State) : s.Keeps (s.countPort p c) := by
  cases p with
  | trunk => exact s.keeps_onTrunk (·.count c.ofTrunk)
  | branch b => exact s.keeps_countBranch b _

theorem State.keeps_countNoise (p : Port) (noisy : Bool) (s : State) : s.Keeps (s.countNoise p noisy) := by
  cases noisy with
  | false => exact .refl s
  | true => exact s.keeps_countPort p _

theorem State.keeps_appendUpstream (i : UpItem) (s : State) : s.Keeps (s.appendUpstream i) :=
  keeps_of_same (by simp) (by simp)

theorem State.keeps_buildFault (n : BufferId) (a : Byte) (q : Sequence) (r : FaultReason) (b k : Nat) (s : State) :
    s.Keeps (s.buildFault n a q r b k) := s.keeps_setBuffer n _

theorem State.keeps_settingTakesEffect (s : State) : s.Keeps s.settingTakesEffect := by
  unfold State.settingTakesEffect
  split
  case h_1 => exact .refl s
  case h_2 =>
    split
    case h_1 => exact .refl s
    case h_2 => dsimp only; split <;> exact keeps_of_same rfl rfl

theorem State.keeps_receiveAtRest (s : State) : s.Keeps s.receiveAtRest := by
  unfold State.receiveAtRest
  split
  case h_1 => exact .refl s
  case h_2 =>
    split
    case h_1 => exact .refl s
    case h_2 =>
      split
      · exact keeps_of_same rfl rfl
      · exact .refl s

theorem State.keeps_beginCommand (s : State) : s.Keeps s.beginCommand := keeps_of_same (by simp) (by simp)

theorem State.keeps_appendCommand (n : BufferId) (s : State) : s.Keeps (s.appendCommand n) := by
  unfold State.appendCommand
  split
  · exact (s.keeps_setAgent _).trans (State.keeps_beginCommand _)
  · exact s.keeps_setAgent _

/-! ## The router (R70 to R85) -/

theorem State.keeps_discard (n : BufferId) (s : State) : s.Keeps (s.discard n) :=
  (s.keeps_onTrunk _).trans (State.keeps_free n _)

theorem State.keeps_wrongKind (n : BufferId) (s : State) : s.Keeps (s.wrongKind n) :=
  (s.keeps_onTrunk _).trans (State.keeps_free n _)

theorem State.keeps_refuse (n : BufferId) (r : FaultReason) (b : Nat) (s : State) : s.Keeps (s.refuse n r b) := by
  unfold State.refuse
  split
  · exact ((s.keeps_onTrunk _).trans (State.keeps_buildFault n _ _ r b 0 _)).trans (State.keeps_appendUpstream _ _)
  · exact s.keeps_discard n

theorem State.keeps_refuseAtBranch (n : BufferId) (r : FaultReason) (b : Branch) (s : State) :
    s.Keeps (s.refuseAtBranch n r b) := by
  rw [State.refuseAtBranch_eq]
  refine State.Keeps.trans ?_ (State.keeps_refuse n r _ _)
  split
  · exact .refl s
  · exact s.keeps_countBranch b _

theorem BranchPort.broadcast?_slot (n : BufferId) (p : BranchPort) : (p.broadcast? n).slot = p.slot := by
  unfold BranchPort.broadcast?
  split <;> rfl

theorem State.keeps_routeBroadcast (n : BufferId) (s : State) : s.Keeps (s.routeBroadcast n) := by
  unfold State.routeBroadcast
  dsimp only
  split
  · exact (keeps_branches (BranchPort.broadcast?_slot n)).trans (State.keeps_discard n _)
  · exact (keeps_branches (BranchPort.broadcast?_slot n)).trans (State.keeps_setBuffer n _ _)

theorem State.keeps_routeStation (n : BufferId) (a : Byte) (s : State) : s.Keeps (s.routeStation n a) := by
  unfold State.routeStation
  split
  case h_1 => exact (s.keeps_onTrunk _).trans (State.keeps_refuse n _ _ _)
  case h_2 =>
    split
    case isTrue => exact s.keeps_refuse n _ _
    case isFalse =>
      split
      case isTrue => exact s.keeps_refuseAtBranch n _ _
      case isFalse =>
        split
        case isTrue => exact s.keeps_refuseAtBranch n _ _
        case isFalse =>
          rw [State.appendToBranch_eq]
          exact (s.keeps_setBuffer n _).trans (keeps_onBranch (f := fun p => { p with queue := p.queue ++ [n] }) rfl)

theorem State.keeps_routeStored (n : BufferId) (s : State) : s.Keeps (s.routeStored n) := by
  unfold State.routeStored State.routeToAgent
  dsimp only
  split
  · exact s.keeps_wrongKind n
  · split
    · split
      · exact s.keeps_routeBroadcast n
      · exact s.keeps_wrongKind n
    · split
      · exact s.keeps_wrongKind n
      · split
        · split
          · exact s.keeps_appendCommand n
          · exact s.keeps_refuse n _ _
        · exact s.keeps_routeStation n _

theorem State.keeps_routeUnstored (a : Byte) (k : Kind) (q : Sequence) (s : State) : s.Keeps (s.routeUnstored a k q) := by
  unfold State.routeUnstored State.storeRefusal
  split
  · split
    · exact (s.keeps_setTrunk _).trans (State.keeps_appendUpstream _ _)
    · exact s.keeps_onTrunk _
  · exact .refl s

/-! ## Slots that give up, take or convert a reservation (R49 to R66, R98) -/

/-- A branch of whose slot alone something is known. -/
theorem State.backs_of_slot {s t : State} {b : Branch} {x : Slot} (hslot : (s.branch b).slot = some x)
    (hother : ∀ c, c ≠ b → t.branch c = s.branch c)
    (h : s.pool.reserved ≤ s.freeCount → x.phase.holdsReservation.toNat ≤ s.pool.reserved →
      t.pool.reserved + x.phase.holdsReservation.toNat = s.pool.reserved + t.held b ∧ t.pool.reserved ≤ t.freeCount) :
    s.Backs t :=
  backs_of_change b (fun c hc => State.held_of_branch (by rw [hother c hc])) (by rw [State.held_of_slot hslot]; exact h)

theorem State.backs_closeSlot {s : State} {b : Branch} {x : Slot} (hslot : (s.branch b).slot = some x) (y : Slot)
    (hphase : y.phase = x.phase) (r : FaultReason) : s.Backs (s.closeSlot b y r) := by
  obtain ⟨hfree, -, hreserved⟩ := State.closeSlot_pool b y r s
  have hless : (s.closeSlot b y r).pool.reserved = s.pool.reserved - x.phase.holdsReservation.toNat := by
    rw [hreserved, hphase]
    cases x.phase.holdsReservation <;> rfl
  refine backs_of_slot hslot (fun c hc => State.closeSlot_of_ne y r s hc) fun hroom hheld => ?_
  have hempty : (s.closeSlot b y r).held b = 0 := State.held_of_empty (by rw [State.closeSlot_same])
  have hcount : (s.closeSlot b y r).freeCount = s.freeCount := by rw [State.freeCount, State.freeCount, hfree]
  omega

theorem State.setSlot_slot (b : Branch) (x : Option Slot) (s : State) : ((s.setSlot b x).branch b).slot = x := by
  rw [State.setSlot_same]

/-- A failed attempt that takes a reservation again needs a buffer for it (R57, R96). -/
theorem State.backs_attemptFailed {s : State} {b : Branch} {x : Slot} (hslot : (s.branch b).slot = some x) (f : Failure)
    (hroom : x.phase.holdsReservation = false → s.pool.reserved < s.freeCount) : s.Backs (s.attemptFailed b x f) := by
  unfold State.attemptFailed
  dsimp only
  split
  case isFalse => exact backs_closeSlot hslot { x with lastFailure := some f } rfl _
  case isTrue =>
    split
    case isTrue hheld =>
      refine backs_of_slot hslot (fun c hc => State.setSlot_of_ne _ s hc) fun hfree _ => ?_
      rw [State.held_of_slot (State.setSlot_slot b _ s)]
      refine ⟨?_, hfree⟩
      have : x.phase.holdsReservation = true := hheld
      rw [this]
      rfl
    case isFalse hheld =>
      have hnot : x.phase.holdsReservation = false := by simpa using hheld
      have hlt := hroom hnot
      refine backs_of_slot hslot (fun c hc => State.setSlot_of_ne _ s.reserve hc) fun _ _ => ?_
      rw [State.held_of_slot (State.setSlot_slot b _ s.reserve), hnot]
      exact ⟨rfl, hlt⟩

end Sys2Proof.Machine
end

section
/-! PROOFS. The reservations stay backed at every step, and so every conversion finds a buffer: O56. -/

namespace Sys2Proof.Machine

/-! ## The reply (R49 to R60) -/

/-- Reservation count and slots stay as they are. -/
theorem State.backs_of_held {s t : State} (hreserved : t.pool.reserved = s.pool.reserved) (hheld : ∀ b, t.held b = s.held b)
    (hroom : s.pool.reserved ≤ s.freeCount → s.pool.reserved ≤ t.freeCount) : s.Backs t := by
  rintro ⟨hcount, hfree⟩
  refine ⟨?_, hreserved ▸ hroom hfree⟩
  rw [hreserved, hcount, State.reservedSlots_eq, State.reservedSlots_eq]
  simp only [hheld]

theorem State.backs_convert {s : State} {b : Branch} {x : Slot} (hslot : (s.branch b).slot = some x)
    (hheld : x.phase.holdsReservation = true) {n : BufferId} {rest : List BufferId} (hfree : s.pool.free = n :: rest) (v : Byte) :
    s.Backs (s.convert b x v n rest) := by
  refine backs_of_slot hslot (fun c hc => State.setSlot_of_ne _ (s.claim v n rest).unreserve hc) fun hroom hone => ?_
  have hreserved : (s.convert b x v n rest).pool.reserved = s.pool.reserved - 1 := rfl
  have hcount : (s.convert b x v n rest).freeCount = rest.length := rfl
  have hreceiving : (s.convert b x v n rest).held b = 0 :=
    State.held_of_slot (State.setSlot_slot b _ (s.claim v n rest).unreserve)
  rw [State.freeCount, hfree, List.length_cons] at hroom
  rw [hheld] at hone ⊢
  simp only [Bool.toNat_true] at hone ⊢
  omega

theorem State.keeps_slot_of_receiving {s : State} {b : Branch} {x : Slot} {m : BufferId} {frozen : Option Nat}
    (hslot : (s.branch b).slot = some x) (hphase : x.phase = .receiving m frozen) (l : Option LastClosed) :
    s.Keeps (s.onBranch b fun p => { p with slot := none, lastClosed := l }) := by
  refine ⟨le_rfl, rfl, fun c => ?_⟩
  by_cases hc : c = b
  · subst hc
    rw [State.held_of_slot hslot, hphase, State.held_of_empty (by rw [State.onBranch_same])]
    rfl
  · exact State.held_of_branch (by rw [State.onBranch_of_ne _ s hc])

theorem State.backs_acceptReply {s : State} {b : Branch} {x : Slot} {m : BufferId} {frozen : Option Nat}
    (hslot : (s.branch b).slot = some x) (hphase : x.phase = .receiving m frozen) (n : BufferId) :
    s.Backs (s.acceptReply b x n) := by
  have hbefore := (((s.keeps_setBuffer n _).trans (State.keeps_appendUpstream (.frame n .nothing) (s.rewrite n x.trunkAddress))).trans
    (State.keeps_free x.request _)).trans (State.keeps_countBranch b .replies _)
  refine (hbefore.trans (keeps_slot_of_receiving ?_ hphase _)).backs
  rw [State.countBranch_branch_slot]
  simpa using hslot

theorem State.backs_rejectReply {s : State} {b : Branch} {x : Slot} {m : BufferId} {frozen : Option Nat}
    (hslot : (s.branch b).slot = some x) (hphase : x.phase = .receiving m frozen) (n : BufferId) (c : BranchCounter) :
    s.Backs (s.rejectReply b x n frozen c) := by
  rw [State.rejectReply_eq]
  refine backs_of_slot hslot (fun d hd => State.setBranch_of_ne s _ hd) fun hroom _ => ?_
  have hheld : ∀ (p : BranchPort), p.slot = some { x with phase := .back frozen } →
      (((s.setBranch b p).free n).reserve).held b = 1 := fun p hp => by
    have hs : ((((s.setBranch b p).free n).reserve).branch b).slot = some { x with phase := .back frozen } := by
      simpa using hp
    rw [State.held_of_slot hs]
    cases frozen <;> rfl
  rw [hheld _ rfl, hphase]
  have hcount : ∀ p, (((s.setBranch b p).free n).reserve).freeCount = s.freeCount + 1 :=
    fun p => State.free_freeCount n (s.setBranch b p)
  rw [hcount]
  exact ⟨rfl, Nat.succ_le_succ hroom⟩

theorem State.backs_judgeReply (b : Branch) (n : BufferId) (s : State) : s.Backs (s.judgeReply b n) := by
  cases hslot : (s.branch b).slot with
  | none => simp only [State.judgeReply, hslot]; exact (s.keeps_free n).backs
  | some x =>
    cases hphase : x.phase with
    | receiving m frozen =>
      by_cases hanswer : (s.desc n).kind.answers
      · rw [State.judgeReply_of_answers hslot hphase n hanswer]
        split
        · exact backs_acceptReply hslot hphase n
        · exact backs_rejectReply hslot hphase n _
      · rw [State.judgeReply_of_not_answers hslot hphase n hanswer]
        exact backs_rejectReply hslot hphase n _
    | ready => simp only [State.judgeReply, hslot, hphase]; exact (s.keeps_free n).backs
    | sending => simp only [State.judgeReply, hslot, hphase]; exact (s.keeps_free n).backs
    | waiting t => simp only [State.judgeReply, hslot, hphase]; exact (s.keeps_free n).backs

/-- The buffer of the abandoned reply backs the reservation that the slot takes again (R56, R96). -/
theorem State.backs_replyAbandoned {b : Branch} {s : State} (hroom : s.pool.reserved < s.freeCount) :
    s.Backs (s.replyAbandoned b) := by
  unfold State.replyAbandoned
  split
  case h_1 => exact .refl s
  case h_2 x hslot =>
    split
    case h_1 =>
      exact (s.keeps_countBranch b .badReply).backs.trans
        (backs_attemptFailed ((s.countBranch_branch_slot b b _).trans hslot) _ fun _ => hroom)
    all_goals exact .refl s

theorem State.backs_breakSlot (b : Branch) (s : State) : s.Backs (s.breakSlot b) := by
  unfold State.breakSlot
  split
  case h_1 => exact .refl s
  case h_2 x hslot =>
    split
    case h_1 =>
      split
      · exact backs_closeSlot hslot x rfl _
      · exact .refl s
    case h_2 => exact .refl s
    all_goals exact backs_closeSlot hslot x rfl _

/-! ## Frames in assembly (R7 to R14) -/

theorem State.keeps_setAssembler (p : Port) (x : Option Assembly) (s : State) : s.Keeps (s.setAssembler p x) := by
  cases p with
  | trunk => exact keeps_of_same rfl rfl
  | branch b => exact keeps_onBranch (f := fun q => { q with assembler := x }) rfl

theorem State.keeps_onReceiver (p : Port) (f : Receiver → Receiver) (s : State) : s.Keeps (s.onReceiver p f) := by
  cases p with
  | trunk => exact keeps_of_same rfl rfl
  | branch b => exact keeps_onBranch (f := fun q => { q with receiver := f q.receiver }) rfl

theorem State.keeps_hear (p : Port) (s : State) : s.Keeps (s.hear p) := by
  cases p with
  | trunk => exact keeps_of_same rfl rfl
  | branch b => exact keeps_onBranch (f := fun q => { q with line := .hearing }) rfl

theorem State.keeps_rest (p : Port) (q : Nat) (s : State) : s.Keeps (s.rest p q) := by
  cases p with
  | trunk => exact (s.keeps_onTrunk fun t => { t with line := .idle }).trans (State.keeps_receiveAtRest _)
  | branch b => exact keeps_onBranch (f := BranchPort.goQuiet q) rfl

theorem State.keeps_abandonFrame (p : Port) (a : Assembly) (s : State) : s.Keeps (s.abandonFrame p a) :=
  ((s.keeps_countPort p _).trans (State.keeps_free? _ _)).trans (State.keeps_setAssembler p _ _)

theorem State.abandonFrame_freeCount {a : Assembly} {n : BufferId} (h : a.store = some n) (p : Port) (s : State) :
    (s.abandonFrame p a).freeCount = s.freeCount + 1 := by
  unfold State.abandonFrame
  rw [h]
  cases p with
  | trunk => exact State.free_freeCount n (s.countPort .trunk .damaged)
  | branch b => exact State.free_freeCount n (s.countPort (.branch b) .damaged)

theorem State.backs_abandon (p : Port) (a : Assembly) (s : State) : s.Backs (s.abandon p a) := by
  intro hs
  have hframe := s.keeps_abandonFrame p a
  have hbacked := hframe.backs hs
  unfold State.abandon State.tellOwner
  split
  case h_1 n hstore =>
    refine backs_replyAbandoned ?_ hbacked
    rw [hframe.reserved, State.abandonFrame_freeCount hstore]
    exact Nat.lt_succ_of_le hs.2
  case h_2 => exact hbacked
  case h_3 => exact hbacked

theorem State.backs_endEarly (p : Port) (s : State) : s.Backs (s.endEarly p) := by
  unfold State.endEarly
  split
  · exact .refl s
  · exact s.backs_abandon p _

theorem State.keeps_breakFrame (p : Port) (s : State) : s.Keeps (s.breakFrame p) := by
  unfold State.breakFrame
  split
  · exact .refl s
  · exact s.keeps_abandonFrame p _

/-- A trunk frame takes a buffer only while more are free than reserved (R92). -/
theorem State.backs_claimTrunk (v : Byte) (s : State) : s.Backs (s.claimTrunk v).2 := by
  unfold State.claimTrunk
  split
  case h_1 n rest hfree =>
    split
    case isTrue hroom =>
      refine backs_of_held rfl (fun _ => rfl) fun _ => ?_
      rw [State.freeCount, hfree] at hroom
      exact Nat.le_of_lt_succ hroom
    case isFalse => exact (s.keeps_onTrunk _).backs
  case h_2 => exact (s.keeps_onTrunk _).backs

theorem State.backs_claimFor {p : Port} {v : Byte} {s u : State} {store : Option BufferId}
    (h : s.claimFor p v = some (store, u)) : s.Backs u := by
  cases p with
  | trunk =>
    have hu : (s.claimTrunk v).2 = u := by rw [Option.some.inj h]
    exact hu ▸ s.backs_claimTrunk v
  | branch b =>
    unfold State.claimFor State.claimBranch at h
    dsimp only at h
    split at h
    case h_1 => cases h; exact .refl s
    case h_2 x hx =>
      obtain ⟨hslot, hheld⟩ := takesReply_slot hx
      split at h
      case h_1 hfree => cases h; exact backs_convert hslot hheld hfree v
      case h_2 => cases h

/-- While the reservations are backed, a conversion finds a buffer (R95). -/
theorem State.claimFor_isSome {s : State} (hs : s.ReservationsBacked) (p : Port) (v : Byte) :
    ∃ store u, s.claimFor p v = some (store, u) := by
  cases p with
  | trunk => exact ⟨_, _, rfl⟩
  | branch b =>
    unfold State.claimFor State.claimBranch
    dsimp only
    split
    case h_1 => exact ⟨_, _, rfl⟩
    case h_2 x hx =>
      obtain ⟨hslot, hheld⟩ := takesReply_slot hx
      split
      case h_1 => exact ⟨_, _, rfl⟩
      case h_2 hfree =>
        obtain ⟨hcount, hroom⟩ := hs
        have hone := s.held_le_reservedSlots b
        rw [State.held_of_slot hslot, hheld, Bool.toNat_true] at hone
        rw [State.freeCount, hfree, List.length_nil] at hroom
        omega

theorem State.keeps_beginFrame (p : Port) (v : Byte) (noisy damaged : Bool) (store : Option BufferId) (s : State) :
    s.Keeps (s.beginFrame p v noisy damaged store) :=
  ((s.keeps_setAssembler p _).trans (State.keeps_hear p _)).trans (State.keeps_onReceiver p _ _)

theorem State.takeAddress_backed {s : State} (hs : s.ReservationsBacked) (p : Port) (v : Byte) (noisy damaged : Bool) :
    ∃ u, s.takeAddress p v noisy damaged = some u ∧ u.ReservationsBacked := by
  have hearly := s.backs_endEarly p hs
  obtain ⟨store, u, hclaim⟩ := State.claimFor_isSome hearly p v
  refine ⟨_, by rw [State.takeAddress, hclaim], ?_⟩
  exact ((u.keeps_beginFrame p v noisy damaged store).trans (State.keeps_countNoise p noisy _)).backs (backs_claimFor hclaim hearly)

theorem State.keeps_storeChar (a : Assembly) (v : Byte) (s : State) : s.Keeps (s.storeChar a v) := by
  unfold State.storeChar
  split
  · exact s.keeps_setBuffer _ _
  · exact .refl s

theorem State.backs_deliver (p : Port) (a : Assembly) (s : State) : s.Backs (s.deliver p a) := by
  unfold State.deliver
  split
  · exact ((s.keeps_setBuffer _ _).trans (State.keeps_routeStored _ _)).backs
  · exact (s.keeps_setBuffer _ _).backs.trans (State.backs_judgeReply _ _ _)
  · exact (s.keeps_routeUnstored _ _ _).backs
  · exact (s.keeps_countBranch _ _).backs

theorem State.backs_completeFrame (p : Port) (a : Assembly) (w : Word) (s : State) : s.Backs (s.completeFrame p a w) := by
  unfold State.completeFrame
  split
  · exact s.backs_abandon p a
  · exact ((s.keeps_countPort p _).trans (State.keeps_setAssembler p none _)).backs.trans (State.backs_deliver p a _)

theorem State.backs_takeInFrame (p : Port) (v : Byte) (noisy damaged : Bool) (a : Assembly) (s : State) :
    s.Backs (s.takeInFrame p v noisy damaged a) := by
  have hstore := (s.keeps_storeChar a v).backs
  unfold State.takeInFrame
  dsimp only
  split
  case isTrue => exact (hstore.trans (State.backs_abandon p a _)).trans (State.keeps_rest p 0 _).backs
  case isFalse =>
    split
    case isTrue => exact (hstore.trans (State.backs_completeFrame p _ _ _)).trans (State.keeps_rest p 0 _).backs
    case isFalse => exact hstore.trans ((State.keeps_setAssembler p _ _).trans (State.keeps_hear p _)).backs

theorem State.backs_takeData (p : Port) (v : Byte) (noisy damaged : Bool) (s : State) :
    s.Backs (s.takeData p v noisy damaged) := by
  have hend : ∀ u : State, u.Backs ((u.onReceiver p Receiver.endCharacter).countNoise p noisy) :=
    fun u => ((u.keeps_onReceiver p _).trans (State.keeps_countNoise p noisy _)).backs
  unfold State.takeData
  dsimp only
  split
  · exact ((s.keeps_countPort p _).trans (State.keeps_rest p 0 _)).backs.trans (hend _)
  · exact (s.backs_takeInFrame p v noisy damaged _).trans (hend _)

theorem State.backs_takeGapTimerExpiry (p : Port) (s : State) : s.Backs (s.takeGapTimerExpiry p) := by
  unfold State.takeGapTimerExpiry
  split
  · exact .refl s
  · exact (s.backs_abandon p _).trans (State.keeps_rest p _ _).backs

theorem State.keeps_takeStartBit (p : Port) (s : State) : s.Keeps (s.takeStartBit p) :=
  ((s.keeps_setAssembler p _).trans (State.keeps_hear p _)).trans (State.keeps_onReceiver p _ _)

theorem State.keeps_takeFalseStart (p : Port) (s : State) : s.Keeps (s.takeFalseStart p) := by
  unfold State.takeFalseStart
  dsimp only
  split
  · exact (s.keeps_onReceiver p _).trans (State.keeps_rest p 0 _)
  · exact (s.keeps_onReceiver p _).trans (State.keeps_setAssembler p _ _)

/-! ## Grant, transmission and reply timer (R45 to R51, R98) -/

theorem State.backs_takeGrant {s : State} (h : s.possible .grant = true) : s.Backs s.takeGrant := by
  obtain ⟨hroom, -⟩ := s.possible_grant_iff.mp h
  unfold State.takeGrant
  split
  case h_1 => exact .refl s
  case h_2 b hb =>
    obtain ⟨-, hempty, -⟩ := (s.eligible_iff b).mp (eligible_of_grantee hb)
    cases hqueue : (s.branch b).queue with
    | nil => simp only [State.grantTo, hqueue]; exact .refl s
    | cons n rest =>
      cases hroute : (s.desc n).route with
      | none => simp only [State.grantTo, hqueue, hroute]; exact .refl s
      | some r =>
        rw [State.grantTo_of_routed hqueue hroute]
        refine backs_of_change b (fun c hc => State.held_of_branch ?_) fun _ _ => ?_
        · exact congrArg BranchPort.slot (State.setBranch_of_ne s.reserve _ hc)
        · rw [State.held_of_empty hempty, State.held_of_slot (x := Slot.opened n (s.desc n) r) (by rw [State.setBranch_same])]
          exact ⟨rfl, hroom⟩

/-- A slot goes from one phase to another that holds a reservation as it does. -/
theorem State.keeps_slot {s : State} {b : Branch} {x y : Slot} {f : BranchPort → BranchPort} (hslot : (s.branch b).slot = some x)
    (hf : (f (s.branch b)).slot = some y) (hheld : y.phase.holdsReservation = x.phase.holdsReservation) :
    s.Keeps (s.onBranch b f) := by
  refine ⟨le_rfl, rfl, fun c => ?_⟩
  by_cases hc : c = b
  · subst hc
    rw [State.held_of_slot hslot, State.held_of_slot (by rw [State.onBranch_same]; exact hf), hheld]
  · exact State.held_of_branch (by rw [State.onBranch_of_ne _ s hc])

section
variable {s : State} {b : Branch}

theorem State.keeps_takeSendStart (h : s.possible (.sendStart b) = true) : s.Keeps (s.takeSendStart b) := by
  obtain ⟨⟨x, hx, hphase⟩, -⟩ := (s.possible_sendStart_iff b).mp h
  have hcount : s.Keeps (if 2 ≤ x.attempts + 1 then s.countBranch b .retries else s) := by
    split
    · exact s.keeps_countBranch b _
    · exact .refl s
  have hslot : ((if 2 ≤ x.attempts + 1 then s.countBranch b .retries else s).branch b).slot = some x := by
    split
    · rw [State.countBranch_branch_slot]; exact hx
    · exact hx
  unfold State.takeSendStart
  rw [hx]
  exact hcount.trans (keeps_slot hslot rfl (by rw [hphase]; rfl))

theorem State.keeps_takeEndOfTransmission (h : s.possible (.endOfTransmission b) = true) : s.Keeps (s.takeEndOfTransmission b) := by
  obtain ⟨⟨x, hx, hphase⟩, -, -⟩ := (s.possible_endOfTransmission_iff b).mp h
  unfold State.takeEndOfTransmission
  rw [hx]
  exact (s.keeps_countBranch b .framesOut).trans
    (keeps_slot ((s.countBranch_branch_slot b b _).trans hx) rfl (by rw [hphase]; rfl))

theorem State.backs_takeReplyTimerExpiry (h : s.possible (.replyTimerExpiry b) = true) : s.Backs (s.takeReplyTimerExpiry b) := by
  obtain ⟨x, left, hx, hphase⟩ := (s.possible_replyTimerExpiry_iff b).mp h
  unfold State.takeReplyTimerExpiry
  rw [hx]
  exact (s.keeps_countBranch b .noReply).backs.trans
    (backs_attemptFailed ((s.countBranch_branch_slot b b _).trans hx) _ fun hn => by rw [hphase] at hn; cases hn)

end

/-! ## Branch lines (R111 to R129) -/

theorem BranchPort.releaseDriver_slot (p : BranchPort) : p.releaseDriver.slot = p.slot := by
  unfold BranchPort.releaseDriver
  split <;> rfl

theorem State.keeps_takeDatagramStart (b : Branch) (s : State) : s.Keeps (s.takeDatagramStart b) := by
  unfold State.takeDatagramStart
  split
  case h_1 => exact .refl s
  case h_2 => exact keeps_onBranch rfl

theorem State.keeps_takeDatagramEnd (b : Branch) (s : State) : s.Keeps (s.takeDatagramEnd b) :=
  ((s.keeps_countBranch b .framesOut).trans (State.keeps_releaseRef? _ _)).trans
    (keeps_onBranch (f := fun p => { p.releaseDriver with datagram := none }) (BranchPort.releaseDriver_slot _))

theorem BranchPort.stoppedCharacterEnd_slot (p : BranchPort) : p.stoppedCharacterEnd.slot = p.slot := by
  unfold BranchPort.stoppedCharacterEnd
  split <;> rfl

theorem State.keeps_takeStoppedCharacterEnd (p : Port) (s : State) : s.Keeps (s.takeStoppedCharacterEnd p) := by
  cases p with
  | trunk => exact s.keeps_onTrunk TrunkPort.space
  | branch b => exact keeps_onBranch (f := BranchPort.stoppedCharacterEnd) (BranchPort.stoppedCharacterEnd_slot _)

theorem State.backs_takeBreak (b : Branch) (s : State) : s.Backs (s.takeBreak b) :=
  (((s.keeps_countBranch b .breaks).trans (State.keeps_breakFrame (.branch b) _)).backs.trans (State.backs_breakSlot b _)).trans
    (State.keeps_onBranch (f := fun p => { p with line := .breakIn 0, receiver := p.receiver.breakTaken }) rfl).backs

theorem State.keeps_settle (p : Port) (s : State) : s.Keeps (s.settle p) := by
  cases p with
  | trunk => exact s.keeps_onTrunk TrunkPort.goSettling
  | branch b => exact keeps_onBranch (f := BranchPort.goSettling) rfl

theorem State.keeps_takeSettlingEnd (p : Port) (s : State) : s.Keeps (s.takeSettlingEnd p) := by
  cases p with
  | trunk => exact s.keeps_onTrunk fun t => { t with line := .idle, receiver := Receiver.fresh }
  | branch b => exact keeps_onBranch (f := fun q => { q with line := .quiet 0, receiver := Receiver.fresh }) rfl

theorem State.backs_abortSlot (b : Branch) (s : State) : s.Backs (s.abortSlot b) := by
  unfold State.abortSlot
  split
  case h_1 => exact .refl s
  case h_2 x hx => exact (s.keeps_free? _).backs.trans (backs_closeSlot (by rw [State.free?_branch]; exact hx) x rfl _)

theorem State.keeps_flushEntry (b : Branch) (s : State) (n : BufferId) : s.Keeps (s.flushEntry b n) := by
  unfold State.flushEntry
  split
  · exact (s.keeps_buildFault n _ _ _ _ _).trans (State.keeps_appendUpstream _ _)
  · exact s.keeps_releaseRef n

theorem State.backs_flush (b : Branch) (s : State) : s.Backs (s.flush b) := by
  have hempty : ∀ u : State, u.Keeps (u.onBranch b fun p => { p with queue := [], assembler := none }) :=
    fun u => keeps_onBranch rfl
  have hdatagram : ∀ u : State, u.Keeps (u.onBranch b fun p => { p with datagram := none }) := fun u => keeps_onBranch rfl
  exact (s.backs_abortSlot b).trans ((((hempty _).trans (keeps_foldl (State.keeps_flushEntry b) _ _)).trans
    (State.keeps_releaseRef? _ _)).trans (hdatagram _)).backs

theorem BranchPort.goOff_slot (p : BranchPort) : p.goOff.slot = p.slot := rfl

theorem State.backs_closeBranch (b : Branch) (s : State) : s.Backs (s.closeBranch b) :=
  ((State.keeps_onBranch (f := fun p => { p with admission := .closed }) rfl).backs.trans (State.backs_flush b _)).trans
    (State.keeps_onBranch (f := BranchPort.goOff) (BranchPort.goOff_slot _)).backs

theorem State.backs_takeJam (b : Branch) (s : State) : s.Backs (s.takeJam b) :=
  (s.keeps_countBranch b .jams).backs.trans (State.backs_closeBranch b _)

theorem State.backs_resetBranch (b : Branch) (s : State) : s.Backs (s.resetBranch b) :=
  (State.keeps_onBranch (f := BranchPort.orderEmission) (by rw [BranchPort.orderEmission_same])).backs.trans (State.backs_flush b _)

theorem State.backs_setAdmission (b : Branch) (a : Admission) (s : State) : s.Backs (s.setAdmission b a) := by
  unfold State.setAdmission
  split
  case isTrue => exact .refl s
  case isFalse =>
    split
    case isTrue => exact s.backs_closeBranch b
    case isFalse =>
      split
      · exact (State.keeps_onBranch (f := fun p => { p.goSettling with admission := a }) rfl).backs
      · exact (State.keeps_onBranch (f := fun p => { p with admission := a }) rfl).backs

/-! ## Resets and restarts: no reservation is left (R103, R104) -/

theorem State.restartTakesEffect_backed (s : State) : s.restartTakesEffect.ReservationsBacked := by
  unfold State.restartTakesEffect
  dsimp only
  refine ((State.keeps_settingTakesEffect _).trans (State.keeps_receiveAtRest _)).backs (backed_of_empty rfl fun b => ?_)
  have hb : (({ s with branches := s.branches.map BranchPort.restart } : State).branch b) = (s.branch b).restart :=
    PerBranch.get_map _ _ b
  exact (congrArg BranchPort.slot hb).trans (by rw [BranchPort.restart_eq])

theorem State.takeTrunkLineReset_backed (s : State) : s.takeTrunkLineReset.ReservationsBacked := by
  obtain ⟨-, -, -, -, hsilent, hreserved, -⟩ := State.discardTraffic_same s
  obtain ⟨-, -, -, hbranch, -, -, hzero, -⟩ := State.restartAtReset_same s.discardTraffic
  have hempty : s.discardTraffic.restartAtReset.ReservationsBacked :=
    backed_of_empty (hzero hreserved) fun b => by rw [hbranch, hsilent, BranchPort.silentReset_eq]
  rw [State.takeTrunkLineReset_eq]
  exact ((((State.keeps_onTrunk _ _).trans (State.keeps_onTrunk _ _)).trans (State.keeps_settingTakesEffect _)).trans
    (State.keeps_receiveAtRest _)).backs hempty

theorem State.powerOn_backed (sa : BitVec 3) (tr : BitVec 2) (s : State) : (State.powerOn sa tr s).ReservationsBacked :=
  backed_of_empty rfl fun b => by rw [State.powerOn_branch]; rfl

theorem State.heldLow_backed (s : State) : s.heldLow.ReservationsBacked :=
  backed_of_empty rfl fun b => by
    have hb : s.heldLow.branch b = (s.branch b).heldLow := PerBranch.get_map _ _ b
    rw [hb]; rfl

/-! ## The trunk transmitter (R138, R141) -/

theorem State.keeps_takeSpacingEnd (s : State) : s.Keeps s.takeSpacingEnd :=
  keeps_of_same (by simp [State.takeSpacingEnd]) (by simp [State.takeSpacingEnd])

theorem State.keeps_releaseItem (i : UpItem) (s : State) : s.Keeps (s.releaseItem i) := by
  cases i with
  | frame n c => exact s.keeps_free n
  | refusal r => exact s.keeps_onTrunk fun t => { t with refusals := t.refusals.erase r }

theorem State.backs_carriedTakesEffect (i : UpItem) (s : State) : s.Backs (s.carriedTakesEffect i) := by
  unfold State.carriedTakesEffect
  split
  · exact .refl s
  · exact s.keeps_settingTakesEffect.backs
  · exact fun _ => s.restartTakesEffect_backed
  · exact .refl s

theorem State.backs_takeTransmissionEnd (s : State) : s.Backs s.takeTransmissionEnd := by
  unfold State.takeTransmissionEnd
  split
  case h_1 item tx _ =>
    exact ((((s.keeps_onTrunk _).trans (State.keeps_onTrunk _ _)).trans (State.keeps_releaseItem item _)).backs.trans
      (State.backs_carriedTakesEffect item _)).trans (State.keeps_onTrunk _ _).backs
  all_goals exact .refl s

/-! ## Commands (R171 to R193) -/

theorem Command.Effects.backs {s : State} {c : Command} {f : State → State} (h : c.Effects s f) : s.Backs (f s) := by
  cases h with
  | nothing => exact .refl s
  | clearFlags => exact ((State.keeps_branches (f := BranchPort.clearFlag) fun _ => rfl).trans (State.keeps_onTrunk _ _)).backs
  | zeroCounters p =>
    cases p with
    | trunk => exact (s.keeps_onTrunk _).backs
    | branch b => exact (State.keeps_onBranch (f := fun q => { q with counters := q.counters.zeroCounts }) rfl).backs
  | setWorking i e => exact (s.keeps_setMap _).backs
  | clearWorking i => exact (s.keeps_setMap _).backs
  | loadWorking => exact (s.keeps_setMap _).backs
  | swapTables => exact (s.keeps_setMap _).backs
  | setAdmission b a => exact s.backs_setAdmission b a
  | resetBranch b =>
    unfold State.resetUnlessClosed
    split
    · exact .refl s
    · exact s.backs_resetBranch b
  | setLine b ls t => exact (State.keeps_onBranch rfl).backs
  | setPolicy b q g o => exact (State.keeps_onBranch rfl).backs
  | pendSetting ls => exact (s.keeps_setAgent _).backs
  | setCoupler a => exact (s.keeps_setAgent _).backs

theorem State.backs_takesEffectNow (c : Carry) (s : State) : s.Backs (s.takesEffectNow c) := by
  cases c with
  | nothing => exact .refl s
  | setting => exact s.keeps_settingTakesEffect.backs
  | restart => exact fun _ => s.restartTakesEffect_backed

theorem State.keeps_leavePending (c : Carry) (s : State) : s.Keeps (s.leavePending c) := by
  cases c with
  | nothing => exact .refl s
  | setting => exact .refl s
  | restart => exact s.keeps_setAgent _

theorem State.backs_finish (n : BufferId) (x : Completion) (s : State) : s.Backs (s.finish n x) := by
  unfold State.finish
  split
  · exact (((s.keeps_setBuffer n _).trans (State.keeps_appendUpstream _ _)).trans (State.keeps_leavePending _ _)).backs
  · exact (s.keeps_free n).backs.trans (State.backs_takesEffectNow _ _)

theorem State.backs_completeAs {c : Command} {s : State} (h : s.executes c = true) : s.Backs (s.completeAs c c.own) := by
  obtain ⟨n, rest, -, -, he⟩ := State.completeAs_of_executes h
  have heffect : s.Backs ((s.outcome c n).effect s) := by
    rcases s.outcome_cases c n with ⟨hid, -⟩ | ⟨-, ho⟩
    · rw [hid]; exact .refl s
    · rw [ho]; exact (c.effects_own _ s).backs
  rw [he]
  exact ((heffect.trans (State.keeps_onTrunk _ _).backs).trans (State.backs_finish n _ _)).trans
    ((State.keeps_setAgent _ _).trans (State.keeps_beginCommand _)).backs

/-! ## Every event -/

theorem State.backs_effect {s : State} {i : Instr} (h : s.possible i = true) : s.Backs (s.effect i) := by
  cases i with
  | powerOnReset | rstLow | addressCharacter => cases h
  | dataCharacter p v noisy damaged => exact s.backs_takeData p v noisy damaged
  | gapTimerExpiry p => exact s.backs_takeGapTimerExpiry p
  | grant => exact State.backs_takeGrant h
  | sendStart b => exact (State.keeps_takeSendStart h).backs
  | endOfTransmission b => exact (State.keeps_takeEndOfTransmission h).backs
  | replyTimerExpiry b => exact State.backs_takeReplyTimerExpiry h
  | datagramStart b => exact (s.keeps_takeDatagramStart b).backs
  | datagramEnd b => exact (s.keeps_takeDatagramEnd b).backs
  | stoppedCharacterEnd p => exact (s.keeps_takeStoppedCharacterEnd p).backs
  | breakHeard b => exact s.backs_takeBreak b
  | breakEnd p => exact (s.keeps_settle p).backs
  | settlingEnd p => exact (s.keeps_takeSettlingEnd p).backs
  | jam b => exact s.backs_takeJam b
  | breakEmissionEnd b => exact (State.keeps_onBranch (f := BranchPort.goSettling) rfl).backs
  | trunkLineReset => exact fun _ => s.takeTrunkLineReset_backed
  | spacingEnd => exact s.keeps_takeSpacingEnd.backs
  | transmissionEnd => exact s.backs_takeTransmissionEnd
  | startBitLeadingEdge p => exact (s.keeps_takeStartBit p).backs
  | falseStart p => exact (s.keeps_takeFalseStart p).backs
  | identify => exact State.backs_completeAs (c := .identify) h
  | readStatus => exact State.backs_completeAs (c := .readStatus) h
  | readCounters => exact State.backs_completeAs (c := .readCounters) h
  | readEntry => exact State.backs_completeAs (c := .readEntry) h
  | writeEntry => exact State.backs_completeAs (c := .writeEntry) h
  | clearEntry => exact State.backs_completeAs (c := .clearEntry) h
  | loadWorking => exact State.backs_completeAs (c := .loadWorking) h
  | commit => exact State.backs_completeAs (c := .commit) h
  | setAdmission => exact State.backs_completeAs (c := .setAdmission) h
  | setLine => exact State.backs_completeAs (c := .setLine) h
  | trunkSetLine => exact State.backs_completeAs (c := .trunkSetLine) h
  | setPolicy => exact State.backs_completeAs (c := .setPolicy) h
  | resetBranch => exact State.backs_completeAs (c := .resetBranch) h
  | setAddress => exact State.backs_completeAs (c := .setAddress) h
  | restart => exact State.backs_completeAs (c := .restart) h
  | echo => exact State.backs_completeAs (c := .echo) h
  | unknownCommand => exact State.backs_completeAs (c := .unknown) h

theorem Leads.backs {s t : State} {i : Instr} (h : Leads s i t) : s.Backs t := by
  cases h with
  | kept => exact .refl s
  | powerOn sa tr => exact fun _ => s.powerOn_backed sa tr
  | heldLow => exact fun _ => s.heldLow_backed
  | address p v noisy damaged u hd hu =>
    intro hs
    obtain ⟨w, hw, hbacked⟩ := State.takeAddress_backed hs p v noisy damaged
    obtain rfl : w = u := Option.some.inj (hw.symm.trans hu)
    exact w.keeps_updateWaiting.backs hbacked
  | event _ _ hp => exact (State.backs_effect hp).trans (State.keeps_updateWaiting _).backs

/-- Time alone takes and gives no reservation. -/
theorem State.keeps_cycle (s : State) : s.Keeps s.cycle := by
  refine ⟨le_rfl, rfl, fun b => ?_⟩
  have hb : s.cycle.branch b = (s.branch b).cycle := PerBranch.get_map _ _ b
  have hheld : ∀ p : BranchPort, p.cycle.holdsReservation = p.holdsReservation := by
    intro p
    unfold BranchPort.cycle
    dsimp only
    split
    case isFalse => rfl
    case isTrue =>
      unfold BranchPort.tick BranchPort.holdsReservation
      dsimp only
      cases p.slot with
      | none => rfl
      | some x => cases hx : x.phase <;> simp [SlotPhase.tick, hx, SlotPhase.holdsReservation]
  rw [State.held, hb, hheld]
  rfl

/-- Every row leads somewhere while the reservations are backed: the one fault of the model does not happen (R95). -/
theorem exec_isNext {s : State} (hs : s.ReservationsBacked) (i : Instr) : ∃ t, exec i s = .next t := by
  cases hevent : isEvent i with
  | true =>
    rw [exec_eq_takeEvent hevent]
    unfold takeEvent
    split <;> exact ⟨_, rfl⟩
  | false =>
    cases i with
    | powerOnReset sa tr => exact ⟨_, exec_powerOnReset sa tr s⟩
    | rstLow => exact ⟨_, exec_rstLow s⟩
    | addressCharacter p v noisy damaged =>
      obtain ⟨u, hu, -⟩ := State.takeAddress_backed hs p v noisy damaged
      rw [exec_addressCharacter, execAddressCharacter, hu]
      split <;> exact ⟨_, rfl⟩
    | _ => cases hevent

/-- Settles O56: each operation keeps reservation count and slots, or moves the count with one slot; so the free list holds a
buffer for every slot that may convert, and the step that would fault has one. -/
theorem reservationsAreAlwaysBacked : Obligations.ReservationsAreAlwaysBacked := by
  unfold Obligations.ReservationsAreAlwaysBacked
  refine ⟨fun ph => by cases ph <;> simp [SlotPhase.holdsReservation], fun s hs => ?_⟩
  have hnext : ∃ t, step s = .next t := by
    unfold step
    split
    case h_1 => exact ⟨_, rfl⟩
    case h_2 c rest _ =>
      have hrest : ({ s with pending := rest } : State).ReservationsBacked := hs
      exact exec_isNext hrest c
  obtain ⟨t, ht⟩ := hnext
  refine ⟨t, ht, ?_⟩
  exact step_preserves (P := State.ReservationsBacked) (fun _ _ _ hs => hs) (fun s hs => s.keeps_cycle.backs hs)
    (fun _ _ _ hleads => hleads.backs) hs ht

end Sys2Proof.Machine
end

section
/-! PROOFS. The front command, the resets from outside, and the events that leave the part as it is: O1, O3, O4, O5. -/

namespace Sys2Proof.Machine

/-! ## The front command (log entry 1) -/

/-- Settles O1: the two cases of a step are the two forms of the queue of waiting commands. -/
theorem stepTakesFrontCommand : Obligations.StepTakesFrontCommand := by
  unfold Obligations.StepTakesFrontCommand
  intro c rest s h
  unfold step
  rw [h]

/-! ## Power-on values (R168, R169) -/

theorem Pool.initial_free : Pool.initial.free = List.finRange 32 := by decide

theorem CounterBank.zero_get {n : Nat} (i : Fin n) : (CounterBank.zero n).counts.get i = 0 := by
  simp [CounterBank.zero, Vector.get_eq_getElem]

theorem Receiver.fresh_isAtRest : Receiver.fresh.IsAtRest := ⟨rfl, rfl, rfl⟩

theorem RouteEntry.powerOn_isPowerOn : RouteEntry.powerOn.IsPowerOn := ⟨rfl, rfl, rfl, rfl, rfl, rfl, rfl, rfl⟩

theorem BranchPort.powerOn_isPowerOn (w : List Level) : (BranchPort.powerOn w).IsPowerOn :=
  ⟨rfl, rfl, rfl, rfl, rfl, rfl, rfl, rfl, rfl, rfl, rfl, rfl, rfl, rfl, rfl, rfl, rfl, rfl, Receiver.fresh_isAtRest,
    CounterBank.zero_get, rfl⟩

theorem strapDivisor_toNat (tr : BitVec 2) : (Config.strapDivisor tr).toNat = strapTable tr := by
  revert tr
  decide

theorem LineSettings.trunkPowerOn_isPowerOn (tr : BitVec 2) : (LineSettings.trunkPowerOn tr).IsTrunkPowerOn tr :=
  ⟨strapDivisor_toNat tr, rfl, rfl, rfl, rfl⟩

theorem State.powerOn_isPowerOn (sa : BitVec 3) (tr : BitVec 2) (s : State) : (State.powerOn sa tr s).IsPowerOn sa tr := by
  have hentry : ∀ i, ((State.powerOn sa tr s).map.active.get i).IsPowerOn ∧ ((State.powerOn sa tr s).map.working.get i).IsPowerOn := by
    intro i
    obtain ⟨hactive, hworking⟩ := StationMap.powerOn_get i
    have hmap : (State.powerOn sa tr s).map = StationMap.powerOn := rfl
    rw [hmap, hactive, hworking]
    exact ⟨RouteEntry.powerOn_isPowerOn, RouteEntry.powerOn_isPowerOn⟩
  have hbranch : ∀ b, ((State.powerOn sa tr s).branch b).IsPowerOn := fun b => by
    rw [State.powerOn_branch]
    exact BranchPort.powerOn_isPowerOn _
  exact ⟨Pool.initial_free, rfl, rfl, hentry, rfl, hbranch, LineSettings.trunkPowerOn_isPowerOn tr,
    LineSettings.trunkPowerOn_isPowerOn tr, rfl, rfl, rfl, rfl, rfl, rfl, Receiver.fresh_isAtRest, CounterBank.zero_get, rfl, rfl,
    Agent.powerOn_coupler sa, rfl, rfl, rfl, rfl⟩

/-- Settles O3: POWER_ON_RESET makes the power-on state from any state. -/
theorem powerOnResetSetsEveryBlock : Obligations.PowerOnResetSetsEveryBlock := by
  unfold Obligations.PowerOnResetSetsEveryBlock
  exact fun sa tr s => ⟨_, exec_powerOnReset sa tr s, s.powerOn_isPowerOn sa tr, rfl⟩

/-- The reset state is what a power-on reset with both straps at 0 makes of itself (log entry 2). -/
theorem State.reset_eq_powerOn : State.reset = State.powerOn 0 0 State.reset := by rfl

/-- A power-on reset makes a state in range, from any state. -/
theorem State.powerOn_inRange (sa : BitVec 3) (tr : BitVec 2) (s : State) : (State.powerOn sa tr s).InRange := by
  refine (State.inRange_iff _).mpr ⟨fun b => ?_, ?_⟩
  · rw [State.powerOn_branch]
    exact BranchPort.powerOn_inRange _
  · simp [State.TrunkInRange, State.powerOn, TrunkPort.powerOn, LineSettings.trunkPowerOn, Agent.powerOn, inRange]

/-- Settles O4: the reset state is a power-on state, and every invariant holds of all of those. -/
theorem resetStateHasPowerOnValues : Obligations.ResetStateHasPowerOnValues := by
  unfold Obligations.ResetStateHasPowerOnValues
  have hempty : ∀ b, (State.reset.branch b).queue = [] := fun b => by
    rw [State.reset_eq_powerOn, State.powerOn_branch]; rfl
  refine ⟨⟨?_, rfl⟩, ?_, ?_, fun b => ?_, fun b => ?_, State.waitingSettled_of_empty rfl hempty, ?_⟩
  · rw [State.reset_eq_powerOn]; exact State.powerOn_isPowerOn 0 0 _
  · rw [State.reset_eq_powerOn]; exact State.powerOn_backed 0 0 _
  · rw [State.reset_eq_powerOn]; exact State.powerOn_mapSound 0 0 _
  · rw [State.reset_eq_powerOn, State.powerOn_branch]; exact BranchPort.powerOn_closedIsOff _
  · rw [State.reset_eq_powerOn, State.powerOn_branch]; exact BranchPort.powerOn_drives _
  · rw [State.reset_eq_powerOn]; exact State.powerOn_inRange 0 0 _

/-! ## While RST# is low, and events whose conditions do not hold (R167; log entry 3) -/

theorem exec_of_rstLow {s : State} {i : Instr} (h : s.rstLow = true) (hpower : ∀ sa tr, i ≠ .powerOnReset sa tr)
    (hlow : i ≠ .rstLow) : exec i s = .next s := by
  cases hevent : isEvent i with
  | true => rw [exec_eq_takeEvent hevent, takeEvent, h]; rfl
  | false =>
    cases i with
    | powerOnReset sa tr => exact absurd rfl (hpower sa tr)
    | rstLow => exact absurd rfl hlow
    | addressCharacter p v noisy damaged => rw [exec_addressCharacter, execAddressCharacter, h]; rfl
    | _ => cases hevent

theorem exec_same {s : State} {i : Instr} (hevent : isEvent i = true) (h : ¬ s.possible i = true) : exec i s = .next s :=
  exec_of_not_possible hevent (Bool.eq_false_iff.mpr h)

theorem exec_addressCharacter_same {s : State} {p : Port} (h : ¬ s.delivers p = true) (v : Byte) (noisy damaged : Bool) :
    exec (.addressCharacter p v noisy damaged) s = .next s := by
  rw [exec_addressCharacter, execAddressCharacter, Bool.eq_false_iff.mpr h]
  simp

/-- A line that delivers nothing takes no leading edge and no character. -/
theorem exec_same_of_not_delivers {s : State} {p : Port} (h : ¬ s.delivers p = true) :
    exec (.startBitLeadingEdge p) s = .next s ∧ ∀ v noisy damaged,
      exec (.addressCharacter p v noisy damaged) s = .next s ∧ exec (.dataCharacter p v noisy damaged) s = .next s :=
  ⟨exec_same rfl fun hp => h ((s.possible_startBit_iff p).mp hp).1,
    fun v noisy damaged => ⟨exec_addressCharacter_same h v noisy damaged, exec_same rfl h⟩⟩

/-- No leading edge is taken while a character is in reception, and no false start while none is or the line is not
HEARING; a gap timer that does not run does not end (R11, R156). -/
theorem exec_same_of_reception (s : State) (p : Port) :
    ((s.receiver p).char ≠ none → exec (.startBitLeadingEdge p) s = .next s) ∧
    (¬ s.isHearing p = true ∨ (s.receiver p).char = none → exec (.falseStart p) s = .next s) ∧
    ((∀ a g, s.assembler p = some a → a.gap ≠ some g) → exec (.gapTimerExpiry p) s = .next s) := by
  refine ⟨fun h => exec_same rfl fun hp => h ((s.possible_startBit_iff p).mp hp).2, fun h => exec_same rfl fun hp => ?_,
    fun h => exec_same rfl fun hp => ?_⟩
  · obtain ⟨hhearing, hchar⟩ := (s.possible_falseStart_iff p).mp hp
    exact h.elim (fun hn => hn hhearing) hchar
  · obtain ⟨a, g, ha, hg⟩ := (s.possible_gapTimerExpiry_iff p).mp hp
    exact h a g ha hg

theorem BranchPort.heldLow_isSilent (p : BranchPort) :
    p.heldLow.transmitLevel = .mark ∧ p.heldLow.driverEnabled = false ∧ p.heldLow.sending = none ∧ p.heldLow.datagram = none ∧
    p.heldLow.assembler = none ∧ p.heldLow.receiver.IsAtRest ∧ p.heldLow.slot = none ∧ p.heldLow.lastClosed = none ∧
    p.heldLow.queue = [] ∧ (p.heldLow.line = .off ∨ p.heldLow.line = .settling 0) := by
  have hline : p.heldLow.line = .off ∨ p.heldLow.line = .settling 0 := by
    unfold BranchPort.heldLow
    dsimp only
    split
    · exact .inl rfl
    · exact .inr rfl
  have hout : p.heldLow.line.isBreakOut = false := by rcases hline with h | h <;> rw [h] <;> rfl
  refine ⟨?_, ?_, rfl, rfl, rfl, Receiver.fresh_isAtRest, rfl, rfl, rfl, hline⟩
  · rw [BranchPort.transmitLevel, hout]; rfl
  · rw [BranchPort.driverEnabled, hout]; rfl

/-- Settles O5: RST_LOW in one equation; every other event through the iff that says when it is possible. -/
theorem rstLowHoldsThePart : Obligations.RstLowHoldsThePart := by
  unfold Obligations.RstLowHoldsThePart
  refine ⟨fun s => ⟨_, exec_rstLow s, rfl, rfl, rfl, rfl, rfl, rfl, rfl, Receiver.fresh_isAtRest, rfl, rfl, rfl, rfl, rfl,
    Pool.initial_free, rfl, rfl, rfl, fun b => ?held⟩, fun s i hrst hpower hlow => ⟨exec_of_rstLow hrst hpower hlow, fun hq => ?idle⟩,
    fun s b => ?branch, fun s => ?trunk⟩
  case held =>
    have hb : s.heldLow.branch b = (s.branch b).heldLow := PerBranch.get_map _ _ b
    rw [hb]
    exact BranchPort.heldLow_isSilent _
  case idle =>
    unfold step State.idle
    rw [hq, hrst]
    rfl
  case branch =>
    obtain ⟨hedge, hfalse, hgap⟩ := exec_same_of_reception s (.branch b)
    refine ⟨fun h1 h2 => exec_same_of_not_delivers fun h => ?_, hedge, fun h => hfalse (h.imp_left fun hn hp => ?_), hgap,
      fun h1 h2 h3 => exec_same rfl fun h => ?_, fun hs => ⟨exec_same rfl fun h => ?_, exec_same rfl fun h => ?_⟩,
      fun hj => ⟨exec_same rfl fun h => ?_, exec_same rfl fun h => ?_⟩, fun hc => exec_same rfl fun h => ?_,
      fun hk => exec_same rfl fun h => ?_, fun hq => ⟨exec_same rfl fun h => ?_, exec_same rfl fun h => ?_⟩,
      fun hx => exec_same rfl fun h => ?_, fun hx => exec_same rfl fun h => ?_, fun hx => exec_same rfl fun h => ?_,
      fun hd => exec_same rfl fun h => ?_, fun hl => ⟨exec_same rfl fun h => ?_, exec_same rfl fun h => ?_⟩,
      fun hd => exec_same rfl fun h => ?_, fun hl => exec_same rfl fun h => ?_⟩
    · exact ((s.delivers_branch_iff b).mp h).elim (fun ⟨t, ht⟩ => h2 t ht) h1
    · exact hn ((s.isHearing_branch_iff b).mp hp)
    · rcases (LineState.hearsBreak_iff _).mp ((s.possible_breakHeard_iff b).mp h).1 with ⟨t, ht⟩ | hh | ⟨c, hc⟩
      · exact h2 t ht
      · exact h1 hh
      · exact h3 c hc
    · exact hs ((s.possible_breakHeard_iff b).mp h).2
    · exact hs ((s.isSettling_branch_iff b).mp h).2
    · exact ((s.isBreakIn_branch_iff b).mp h).elim hj
    · exact ((s.possible_jam_iff b).mp h).elim hj
    · exact ((s.isSettling_branch_iff b).mp h).1.elim hc
    · exact ((s.possible_breakEmissionEnd_iff b).mp h).elim hk
    · exact ((s.possible_sendStart_iff b).mp h).2.elim hq
    · exact ((s.possible_datagramStart_iff b).mp h).2.2.elim hq
    · obtain ⟨⟨x, hslot, hphase⟩, -⟩ := (s.possible_sendStart_iff b).mp h
      exact hx x hslot hphase
    · obtain ⟨⟨x, hslot, hphase⟩, -⟩ := (s.possible_endOfTransmission_iff b).mp h
      exact hx x hslot hphase
    · obtain ⟨x, left, hslot, hphase⟩ := (s.possible_replyTimerExpiry_iff b).mp h
      exact hx x left hslot hphase
    · obtain ⟨⟨n, rest, hq, hkind⟩, hslot, -⟩ := (s.possible_datagramStart_iff b).mp h
      exact hd.elim (fun hn => hn hslot) fun hn => hn n rest hq hkind
    · obtain ⟨-, hline, tx, htx⟩ := (s.possible_endOfTransmission_iff b).mp h
      exact hl.elim (fun hn => hn hline) fun hn => by rw [hn] at htx; cases htx
    · obtain ⟨-, hline, tx, htx⟩ := (s.possible_datagramEnd_iff b).mp h
      exact hl.elim (fun hn => hn hline) fun hn => by rw [hn] at htx; cases htx
    · exact ((s.possible_datagramEnd_iff b).mp h).1 hd
    · obtain ⟨hline, tx, htx⟩ := (s.possible_stoppedCharacterEnd_iff b).mp h
      rw [LineState.finishesStopped_iff] at hline
      rcases hl with hn | hn | hn | ⟨t, hn⟩ | ⟨k, hn⟩ | ⟨j, hn⟩
      · rw [hn] at htx; cases htx
      all_goals simp [hn] at hline
  case trunk =>
    obtain ⟨hedge, hfalse, hgap⟩ := exec_same_of_reception s .trunk
    refine ⟨fun h1 h2 => exec_same_of_not_delivers fun h => ?_, hedge, fun h => hfalse (h.imp_left fun hn hp => ?_), hgap,
      fun hb => exec_same rfl fun h => ?_, fun hb => exec_same rfl fun h => ?_, fun hc => exec_same rfl fun h => ?_,
      fun hl => exec_same rfl fun h => ?_, fun hl => exec_same rfl fun h => ?_, fun hl => exec_same rfl fun h => ?_,
      fun hg => exec_same rfl fun h => ?_, fun c hc => exec_same (by cases c <;> rfl) fun h => ?_⟩
    · exact (s.delivers_trunk_iff.mp h).elim h2 h1
    · exact hn (s.isHearing_trunk_iff.mp hp)
    · have hline : s.trunk.line.hearsBreak = true := h
      rw [hb] at hline
      cases hline
    · exact hb (s.isBreakIn_trunk_iff.mp h)
    · exact (s.isSettling_trunk_iff.mp h).elim hc
    · exact (s.possible_spacingEnd_iff.mp h).elim hl
    · obtain ⟨item, tx, ht⟩ := s.possible_transmissionEnd_iff.mp h
      exact hl item tx ht
    · exact (s.possible_stoppedCharacterEnd_trunk_iff.mp h).elim hl
    · obtain ⟨hroom, b, hb, he⟩ := s.possible_grant_iff.mp h
      rcases hg with hg | hg
      · omega
      · rw [hg b hb] at he; cases he
    · obtain ⟨n, rest, hq, hn⟩ := (s.possible_command_iff c).mp h
      exact hc n rest hq hn

end Sys2Proof.Machine
end

section
/-! PROOFS. Frames, counters, the upstream queue and the waiting set as they are built: O6, O7, O21, O22, O23. -/

namespace Sys2Proof.Machine

/-! ## The check and the fault frame (R3, R17) -/

theorem crcShift_eq (r : Word) : crcShift r = if r.getLsbD 15 then (r <<< 1) ^^^ 0x1021 else r <<< 1 := by
  rw [crcShift, BitVec.msb_eq_getLsbD_last]

theorem controlOf_fault (q : Sequence) : controlOf .fault q = 0x60 + q.setWidth 8 := by
  revert q
  decide

/-- Settles O6: the check's shift place by place, and the frame character by character. -/
theorem faultFrameHasItsLayoutAndCheck : Obligations.FaultFrameHasItsLayoutAndCheck := by
  unfold Obligations.FaultFrameHasItsLayoutAndCheck
  refine ⟨fun covered => rfl, fun r v => ?_, by decide +kernel, rfl, fun a q r branch attempts => ?_⟩
  · have hshift : (fun x : Word => if x.getLsbD 15 then (x <<< 1) ^^^ 0x1021 else x <<< 1) = crcShift :=
      funext fun x => (crcShift_eq x).symm
    rw [hshift]
    rfl
  · rw [faultFrame, controlOf_fault]
    rfl

/-! ## A frame received character by character (R2, R9) -/

section
variable {v : Byte} {a : Assembly}

theorem Assembly.take_control (he : a.expected = none) (hc : a.count = 1) :
    (a.take v).count = 2 ∧ (a.take v).expected = none ∧ (a.take v).check = crcChar a.check v := by
  have hplace : a.place = .control := by simp [Assembly.place, he, hc]
  simp [Assembly.take, hplace, hc, he, Place.covered]

theorem Assembly.take_length (he : a.expected = none) (hc : a.count = 2) :
    (a.take v).count = 3 ∧ (a.take v).expected = some (5 + v.toNat) ∧ (a.take v).check = crcChar a.check v := by
  have hplace : a.place = .length := by simp [Assembly.place, he, hc]
  simp [Assembly.take, hplace, hc, Place.covered]

theorem Assembly.take_payload {e : Nat} (he : a.expected = some e) (h : a.count + 2 < e) :
    (a.take v).count = a.count + 1 ∧ (a.take v).expected = some e ∧ (a.take v).check = crcChar a.check v := by
  have hplace : a.place = .payload := by
    simp only [Assembly.place, he]
    rw [if_neg (by omega), if_neg (by omega)]
  simp [Assembly.take, hplace, he, Place.covered]

theorem Assembly.take_checkHi (he : a.expected = some (a.count + 2)) :
    (a.take v).count = a.count + 1 ∧ (a.take v).expected = some (a.count + 2) ∧ (a.take v).check = a.check := by
  have hplace : a.place = .checkHi := by simp [Assembly.place, he]
  simp [Assembly.take, hplace, he, Place.covered]

theorem Assembly.take_checkLo (he : a.expected = some (a.count + 1)) :
    (a.take v).count = a.count + 1 ∧ (a.take v).expected = some (a.count + 1) ∧ (a.take v).check = a.check := by
  have hplace : a.place = .checkLo := by simp [Assembly.place, he]
  simp [Assembly.take, hplace, he, Place.covered]

end

theorem Assembly.takeAll_payload {e : Nat} (payload : List Byte) : ∀ a : Assembly, a.expected = some e →
    a.count + payload.length + 2 = e →
    (a.takeAll payload).count = a.count + payload.length ∧ (a.takeAll payload).expected = some e ∧
      (a.takeAll payload).check = payload.foldl crcChar a.check := by
  induction payload with
  | nil => exact fun a he _ => ⟨rfl, he, rfl⟩
  | cons v rest ih =>
    intro a he hlen
    rw [List.length_cons] at hlen
    obtain ⟨hcount, hexpected, hcheck⟩ := Assembly.take_payload (v := v) he (by omega)
    obtain ⟨hcount', hexpected', hcheck'⟩ := ih (a.take v) hexpected (by omega)
    refine ⟨?_, hexpected', ?_⟩
    · rw [Assembly.takeAll, List.foldl_cons, List.length_cons]
      rw [Assembly.takeAll] at hcount'
      omega
    · rw [hcheck] at hcheck'
      exact hcheck'

theorem hiByte_loByte (w : Word) : wordOf (hiByte w) (loByte w) = w := by
  unfold wordOf hiByte loByte
  exact BitVec.extractLsb'_append_extractLsb' (w := 8) (len := 8) (x := w)

/-- Settles O7: the frame is taken control, length, payload by induction, and check, with count, expected length and running
check followed through. -/
theorem generatedFramesAreReceivedValid : Obligations.GeneratedFramesAreReceivedValid := by
  unfold Obligations.GeneratedFramesAreReceivedValid
  intro store a control payload hlen
  have hlength : (byteOf payload.length).toNat = payload.length := byteOf_toNat_of_lt (by omega)
  intro covered last
  have hlast : last = ((((((Assembly.start store a).take control).take (byteOf payload.length)).takeAll payload).take
      (hiByte (checkOf covered))).take (loByte (checkOf covered))) := by
    simp [last, covered, withCheck, Assembly.takeAll, List.foldl_append]
  have hstart : (Assembly.start store a).count = 1 ∧ (Assembly.start store a).expected = none ∧
      (Assembly.start store a).check = crcChar 0xFFFF a := ⟨rfl, rfl, rfl⟩
  obtain ⟨hcount, hexpected, hcheck⟩ := hstart
  obtain ⟨hcount2, hexpected2, hcheck2⟩ := Assembly.take_control (v := control) hexpected hcount
  obtain ⟨hcount3, hexpected3, hcheck3⟩ := Assembly.take_length (v := byteOf payload.length) hexpected2 hcount2
  rw [hlength] at hexpected3
  obtain ⟨hcount4, hexpected4, hcheck4⟩ := Assembly.takeAll_payload payload _ hexpected3 (by omega)
  obtain ⟨hcount5, hexpected5, hcheck5⟩ := Assembly.take_checkHi (v := hiByte (checkOf covered))
    (hexpected4.trans (congrArg some (by omega)))
  obtain ⟨hcount6, hexpected6, hcheck6⟩ := Assembly.take_checkLo (v := loByte (checkOf covered))
    (hexpected5.trans (congrArg some (by omega)))
  rw [hlast]
  refine ⟨by omega, hexpected6.trans (congrArg some (by omega)), ?_, hiByte_loByte _, rfl⟩
  rw [hcheck6, hcheck5, hcheck4, hcheck3, hcheck2, hcheck]
  simp [covered, checkOf, crcStart]

/-! ## The upstream queue (R135, R138, R139) -/

theorem State.trunkItems_of_sending {s : State} {item : UpItem} {tx : Transmission} (h : s.trunk.transmitter = .sending item tx) :
    s.trunkItems = item :: s.trunk.upstream := by
  simp [State.trunkItems, h, TrunkTransmitter.items]

theorem State.trunkItems_of_not_sending {s : State} (h : ∀ item tx, s.trunk.transmitter ≠ .sending item tx) :
    s.trunkItems = s.trunk.upstream := by
  cases ht : s.trunk.transmitter with
  | sending item tx => exact absurd ht (h item tx)
  | _ => simp [State.trunkItems, ht, TrunkTransmitter.items]

theorem State.startIfIdle_of_not_idle {s : State} (h : s.trunk.transmitter ≠ .idle) : s.startIfIdle = s := by
  cases ht : s.trunk.transmitter with
  | idle => exact absurd ht h
  | _ => simp [State.startIfIdle, ht]

theorem State.startIfIdle_of_head {s : State} (h : s.trunk.transmitter = .idle) {item : UpItem} {rest : List UpItem}
    (hq : s.trunk.upstream = item :: rest) : s.startIfIdle = s.setTrunk { s.trunk with
      upstream := rest, transmitter := .sending item (Transmission.start (s.itemChars item) s.trunk.txSettings) } := by
  simp [State.startIfIdle, h, State.startTransmission, hq]

theorem State.startIfIdle_of_empty {s : State} (hq : s.trunk.upstream = []) : s.startIfIdle = s := by
  cases ht : s.trunk.transmitter <;> simp [State.startIfIdle, State.startTransmission, ht, hq]

theorem State.setTrunk_itemChars (t : TrunkPort) (item : UpItem) (s : State) : (s.setTrunk t).itemChars item = s.itemChars item := by
  cases item <;> rfl

theorem State.appendUpstream_of_not_idle {s : State} (h : s.trunk.transmitter ≠ .idle) (item : UpItem) :
    s.appendUpstream item = s.setTrunk { s.trunk with upstream := s.trunk.upstream ++ [item] } :=
  State.startIfIdle_of_not_idle (s := s.setTrunk { s.trunk with upstream := s.trunk.upstream ++ [item] }) h

/-- Settles O21: an IDLE transmitter takes the head of the queue, and any other keeps what it does. -/
theorem appendUpstreamKeepsOrder : Obligations.AppendUpstreamKeepsOrder := by
  unfold Obligations.AppendUpstreamKeepsOrder
  refine ⟨fun _ _ _ => rfl, fun s => ⟨State.trunkItems_of_not_sending, fun _ _ => State.trunkItems_of_sending⟩,
    fun item s => ⟨State.appendUpstream_items item s, fun h => State.appendUpstream_of_not_idle h item, fun h hq => ?_,
      State.appendUpstream_eq item s⟩⟩
  have hhead : (s.setTrunk { s.trunk with upstream := s.trunk.upstream ++ [item] }).trunk.upstream = [item] := by simp [hq]
  rw [State.appendUpstream, State.startIfIdle_of_head (s := s.setTrunk { s.trunk with upstream := s.trunk.upstream ++ [item] })
    h hhead, State.setTrunk_itemChars, State.setTrunk_setTrunk]
  simp [hq]

/-! ## The waiting set (R97) -/

/-- Settles O22: who stays is a filter of the set, who joins a filter of all branches, and the conditions are those of R97. -/
theorem waitingSetFollowsEveryEvent : Obligations.WaitingSetFollowsEveryEvent := by
  unfold Obligations.WaitingSetFollowsEveryEvent
  intro s
  exact ⟨_, _, rfl, rfl, List.filter_sublist, s.mem_updateWaiting_iff, s.eligible_iff⟩

/-! ## Counters (R199 to R201) -/

theorem BranchCounter.index_inj {c d : BranchCounter} (h : c.index = d.index) : c = d := by
  revert h
  cases c <;> cases d <;> decide

theorem TrunkCounter.index_inj {c d : TrunkCounter} (h : c.index = d.index) : c = d := by
  revert h
  cases c <;> cases d <;> decide

/-- Settles O23: a count sets one place of the bank, and each counter has a place of its own. -/
theorem countsSaturateAndSetFlags : Obligations.CountsSaturateAndSetFlags := by
  unfold Obligations.CountsSaturateAndSetFlags
  refine ⟨saturate_toNat, fun p c d => ⟨?_, rfl, rfl⟩, fun t c d => ⟨?_, rfl, rfl⟩, fun c => by cases c <;> decide,
    fun c => by cases c <;> decide, by decide, by decide⟩
  · refine (CounterBank.count_get _ _ _ _).trans ?_
    by_cases h : d = c
    · simp [h, BranchPort.counter]
    · rw [if_neg h, if_neg fun he => h (BranchCounter.index_inj he)]; rfl
  · refine (CounterBank.count_get _ _ _ _).trans ?_
    by_cases h : d = c
    · simp [h, TrunkPort.counter]
    · rw [if_neg h, if_neg fun he => h (TrunkCounter.index_inj he)]; rfl

end Sys2Proof.Machine
end

section
/-! PROOFS. The assemblers (Section 1): an orphan, a frame begun, extended and ended, an early address, a gap, and the leading
edge: O8 to O13, O15. -/

namespace Sys2Proof.Machine

/-! ## What the operations make of one port -/

theorem State.onBranch_eq (b : Branch) (f : BranchPort → BranchPort) (s : State) : s.onBranch b f = s.setBranch b (f (s.branch b)) := rfl

theorem State.countBranch_eq (b : Branch) (c : BranchCounter) (s : State) : s.countBranch b c = s.setBranch b ((s.branch b).count c) := rfl

/-- Taking up a setting reads and writes neither the receive side nor the counters of the trunk. -/
theorem State.receiveAtRest_onTrunk (g : Receiver → Receiver) (k : CounterBank 13 → CounterBank 13) (s : State) :
    (s.receiveAtRest.onTrunk fun t => { t with receiver := g t.receiver, counters := k t.counters }) =
      (s.onTrunk fun t => { t with receiver := g t.receiver, counters := k t.counters }).receiveAtRest := by
  unfold State.receiveAtRest
  rw [State.onTrunk_agent]
  cases s.agent.pendingSetting with
  | none => rfl
  | some p =>
    cases hphase : p.phase with
    | awaiting => simp only [hphase]
    | takingUp =>
      simp only [hphase]
      have hrest : (s.onTrunk fun t => { t with receiver := g t.receiver, counters := k t.counters }).trunk.atRest = s.trunk.atRest := rfl
      rw [hrest]
      split
      case isFalse => rfl
      case isTrue =>
        have htake : ∀ t : TrunkPort, ({ t.takeUpReceive p.settings with
            receiver := g (t.takeUpReceive p.settings).receiver, counters := k (t.takeUpReceive p.settings).counters } : TrunkPort) =
            TrunkPort.takeUpReceive p.settings { t with receiver := g t.receiver, counters := k t.counters } := by
          intro t
          cases ht : t.line <;> simp [TrunkPort.takeUpReceive, ht]
        exact congrArg (fun u : TrunkPort => ({ s with trunk := u, agent := { s.agent with pendingSetting := none } } : State))
          (htake s.trunk)

/-! ## Orphans (R8) -/

theorem State.takeData_of_orphan {s : State} {p : Port} (h : s.assembler p = none) (v : Byte) (noisy damaged : Bool) :
    s.takeData p v noisy damaged = ((s.takeOrphan p).onReceiver p Receiver.endCharacter).countNoise p noisy := by
  simp only [State.takeData, h]

theorem exec_dataCharacter {s : State} {p : Port} (hrst : s.rstLow = false) (h : s.delivers p = true) (v : Byte)
    (noisy damaged : Bool) :
    exec (.dataCharacter p v noisy damaged) s = .next (s.takeData p v noisy damaged).updateWaiting := exec_of_possible hrst h

theorem State.takeOrphan_branch (b : Branch) (noisy : Bool) (s : State) :
    ((s.takeOrphan (.branch b)).onReceiver (.branch b) Receiver.endCharacter).countNoise (.branch b) noisy =
      s.setBranch b { s.branch b with
        line := .quiet 0
        receiver := (s.branch b).receiver.endCharacter
        counters := (if noisy then ((s.branch b).count .orphanChars).count .noisyChars else (s.branch b).count .orphanChars).counters } := by
  cases noisy <;> simp [State.takeOrphan, State.countPort, State.countBranch, State.rest, State.onReceiver, State.countNoise,
    State.onBranch_eq, BranchPort.goQuiet, BranchPort.count, PortCounter.ofBranch]

theorem State.takeOrphan_trunk (noisy : Bool) (s : State) :
    ((s.takeOrphan .trunk).onReceiver .trunk Receiver.endCharacter).countNoise .trunk noisy =
      (s.setTrunk { s.trunk with
        line := .idle
        receiver := s.trunk.receiver.endCharacter
        counters := (if noisy then (s.trunk.count .orphanChars).count .noisyChars else s.trunk.count .orphanChars).counters }).receiveAtRest := by
  cases noisy with
  | false => exact State.receiveAtRest_onTrunk Receiver.endCharacter id _
  | true => exact State.receiveAtRest_onTrunk Receiver.endCharacter (fun c => c.count TrunkCounter.noisyChars.index true) _

/-- Settles O8: the count, the end of the character and the line at rest are one change of the port. -/
theorem orphanCharacterIsCounted : Obligations.OrphanCharacterIsCounted := by
  unfold Obligations.OrphanCharacterIsCounted
  refine ⟨LineState.delivers_iff, TrunkLine.delivers_iff, fun b v noisy damaged s hrst hl ha => ?_,
    fun v noisy damaged s hrst hl ha => ?_⟩
  · rw [exec_dataCharacter hrst (p := .branch b) hl, State.takeData_of_orphan (p := .branch b) ha, State.takeOrphan_branch]
    rfl
  · rw [exec_dataCharacter hrst (p := .trunk) hl, State.takeData_of_orphan (p := .trunk) ha, State.takeOrphan_trunk]
    rfl

/-! ## A frame begun (R7, R12) -/

theorem Assembly.start_mark (store : Option BufferId) (v : Byte) (strict noisy damaged : Bool) (gap : Nat) :
    ({ (Assembly.start store v).mark strict noisy damaged with gap := some gap } : Assembly) =
      { store := store, header := if store.isSome then [] else [v], check := crcChar 0xFFFF v, count := 1, expected := none,
        spoiled := damaged || (noisy && strict), noisy := noisy && !strict && !damaged, last := v, gap := some gap } := by
  simp [Assembly.start, Assembly.mark, crcStart]

section
variable {s : State} {v : Byte} {noisy damaged : Bool}

theorem State.beginFrame_trunk (store : Option BufferId) : s.beginFrame .trunk v noisy damaged store =
    s.setTrunk { s.trunk with
      line := .hearing, receiver := s.trunk.receiver.endCharacter
      assembler := some { (Assembly.start store v).mark s.trunk.rxSettings.format.noiseStrict noisy damaged with
        gap := some s.trunk.rxSettings.gapTicks } } := rfl

theorem State.beginFrame_branch (b : Branch) (store : Option BufferId) : s.beginFrame (.branch b) v noisy damaged store =
    s.setBranch b { s.branch b with
      line := .hearing, receiver := (s.branch b).receiver.endCharacter
      assembler := some { (Assembly.start store v).mark (s.branch b).settings.format.noiseStrict noisy damaged with
        gap := some (s.branch b).settings.gapTicks } } := by
  simp [State.beginFrame, State.setAssembler, State.hear, State.onReceiver, State.onBranch_eq, State.receiveSettings]

theorem State.countNoise_trunk (noisy : Bool) (s : State) :
    s.countNoise .trunk noisy = s.setTrunk { s.trunk with counters := (if noisy then s.trunk.count .noisyChars else s.trunk).counters } := by
  cases noisy <;> rfl

theorem State.countNoise_branch (b : Branch) (noisy : Bool) (s : State) : s.countNoise (.branch b) noisy =
    s.setBranch b { s.branch b with counters := (if noisy then (s.branch b).count .noisyChars else s.branch b).counters } := by
  cases noisy with
  | true => rfl
  | false => exact (State.onBranch_eq_self (f := id) rfl).symm

theorem State.endEarly_of_idle {p : Port} (h : s.assembler p = none) : s.endEarly p = s := by
  simp only [State.endEarly, h]

theorem State.takeAddress_of_claim {p : Port} (h : s.assembler p = none) {store : Option BufferId} {u : State}
    (hclaim : s.claimFor p v = some (store, u)) :
    s.takeAddress p v noisy damaged = some ((u.beginFrame p v noisy damaged store).countNoise p noisy) := by
  rw [State.takeAddress, State.endEarly_of_idle h, hclaim]

theorem exec_addressCharacter_of_claim {p : Port} (hrst : s.rstLow = false) (hd : s.delivers p = true)
    (h : s.assembler p = none) {store : Option BufferId} {u : State} (hclaim : s.claimFor p v = some (store, u)) :
    exec (.addressCharacter p v noisy damaged) s =
      .next ((u.beginFrame p v noisy damaged store).countNoise p noisy).updateWaiting := by
  rw [exec_addressCharacter, execAddressCharacter, State.takeAddress_of_claim h hclaim, hrst, hd]
  rfl

end

theorem State.claimTrunk_of_room {s : State} {n : BufferId} {rest : List BufferId} (hfree : s.pool.free = n :: rest)
    (h : s.pool.reserved < s.pool.free.length) (v : Byte) : s.claimTrunk v = (some n, s.claim v n rest) := by
  have hroom : s.pool.reserved < s.freeCount := h
  simp only [State.claimTrunk, hfree, hroom, ↓reduceIte]

theorem State.claimTrunk_of_full {s : State} (h : s.pool.free.length ≤ s.pool.reserved) (v : Byte) :
    s.claimTrunk v = (none, s.countTrunk .noBuffer) := by
  have hfull : ¬ s.pool.reserved < s.freeCount := Nat.not_lt.mpr h
  unfold State.claimTrunk
  split
  · rw [if_neg hfull]
  · rfl

/-- Settles O9: the claim decides between a stored and an unstored frame, and the rest is one change of the trunk port. -/
theorem trunkAddressClaimsUnreservedBuffer : Obligations.TrunkAddressClaimsUnreservedBuffer := by
  unfold Obligations.TrunkAddressClaimsUnreservedBuffer
  intro ended claimed v noisy damaged s hrst hl ha strict frame heard
  refine ⟨fun n rest hfree hroom => ?_, fun hfull => ?_⟩
  · rw [exec_addressCharacter_of_claim hrst (p := .trunk) hl ha (congrArg some (State.claimTrunk_of_room hfree hroom v)),
      State.beginFrame_trunk, Assembly.start_mark, State.countNoise_trunk]
    cases noisy <;> rfl
  · rw [exec_addressCharacter_of_claim hrst (p := .trunk) hl ha (congrArg some (State.claimTrunk_of_full hfull v)),
      State.beginFrame_trunk, Assembly.start_mark, State.countNoise_trunk]
    cases noisy <;> rfl

section
variable {s : State} {b : Branch} {v : Byte}

theorem State.takesReply_of_slot {x : Slot} (hslot : (s.branch b).slot = some x) (haddress : x.localAddress = v)
    (hphase : (x.phase = .ready ∧ 1 ≤ x.attempts) ∨ ∃ left, x.phase = .waiting left) : s.takesReply b v = some x := by
  rcases hphase with ⟨hready, hattempts⟩ | ⟨left, hwaiting⟩
  · simp only [State.takesReply, hslot, hready, haddress, hattempts, and_self, ↓reduceIte]
  · simp only [State.takesReply, hslot, hwaiting, haddress, ↓reduceIte]

theorem State.takesReply_of_other (h : ∀ x, (s.branch b).slot = some x → x.localAddress ≠ v ∨ x.phase = .sending ∨
    (x.phase = .ready ∧ x.attempts = 0) ∨ ∃ n f, x.phase = .receiving n f) : s.takesReply b v = none := by
  cases hslot : (s.branch b).slot with
  | none => simp only [State.takesReply, hslot]
  | some x =>
    rcases h x hslot with hne | hsending | ⟨hready, hzero⟩ | ⟨n, f, hreceiving⟩
    · cases hphase : x.phase <;> simp only [State.takesReply, hslot, hphase, hne, false_and, ↓reduceIte]
    · simp only [State.takesReply, hslot, hsending]
    · simp [State.takesReply, hslot, hready, hzero]
    · simp only [State.takesReply, hslot, hreceiving]

theorem State.claimBranch_of_reply {x : Slot} {n : BufferId} {rest : List BufferId} (hreply : s.takesReply b v = some x)
    (hfree : s.pool.free = n :: rest) : s.claimFor (.branch b) v = some (some n, s.convert b x v n rest) := by
  simp only [State.claimFor, State.claimBranch, hreply, hfree]

theorem State.claimBranch_of_other (h : s.takesReply b v = none) : s.claimFor (.branch b) v = some (none, s) := by
  simp only [State.claimFor, State.claimBranch, h]

end

/-- Settles O10: a converted slot gives the frame its buffer, any other slot none, and the rest is one change of the branch. -/
theorem branchAddressConvertsReservation : Obligations.BranchAddressConvertsReservation := by
  unfold Obligations.BranchAddressConvertsReservation
  intro ended claimed b v noisy damaged s hrst hl ha p strict frame counters
  refine ⟨fun x n rest timer hslot haddress hphase hfree => ?_, fun hother => ?_⟩
  · have htimer : x.phase.frozenTimer = timer := by
      rcases hphase with ⟨hp, -, ht⟩ | ⟨left, hp, ht⟩ <;> rw [hp, ht] <;> rfl
    have hreply : s.takesReply b v = some x := State.takesReply_of_slot hslot haddress
      (hphase.imp (fun ⟨hp, hattempts, _⟩ => ⟨hp, hattempts⟩) fun ⟨left, hp, _⟩ => ⟨left, hp⟩)
    rw [exec_addressCharacter_of_claim hrst (p := .branch b) hl ha (State.claimBranch_of_reply hreply hfree),
      State.beginFrame_branch, Assembly.start_mark, State.countNoise_branch, State.convert, htimer]
    simp only [State.setSlot, State.onBranch_eq, State.setBranch_same, State.setBranch_setBranch]
    cases noisy <;> rfl
  · rw [exec_addressCharacter_of_claim hrst (p := .branch b) hl ha (State.claimBranch_of_other (State.takesReply_of_other hother)),
      State.beginFrame_branch, Assembly.start_mark, State.countNoise_branch]
    simp only [State.setBranch_same, State.setBranch_setBranch]
    cases noisy <;> rfl

end Sys2Proof.Machine
end

section
/-! PROOFS. A frame goes on, ends or is given up (Section 1), and a leading edge that turns out false: O11 to O15. -/

namespace Sys2Proof.Machine

/-! ## What an abandonment and a delivery read of the frame -/

theorem State.abandon_congr {a c : Assembly} (h : a.store = c.store) (p : Port) (s : State) : s.abandon p a = s.abandon p c := by
  unfold State.abandon State.tellOwner State.abandonFrame
  rw [h]

theorem State.deliver_congr {a c : Assembly} (hstore : a.store = c.store) (hcount : a.count = c.count) (hheader : a.header = c.header)
    (p : Port) (s : State) : s.deliver p a = s.deliver p c := by
  unfold State.deliver
  rw [hstore, hcount, hheader]

/-! ## An early address and a gap (R10, R11) -/

theorem State.takeAddress_abandon {s : State} {p : Port} {a : Assembly} (h : s.assembler p = some a) (v : Byte)
    (noisy damaged : Bool) : s.takeAddress p v noisy damaged = (s.abandon p a).takeAddress p v noisy damaged := by
  have hearly : s.endEarly p = s.abandon p a := by simp only [State.endEarly, h]
  rw [State.takeAddress, State.takeAddress, hearly, State.endEarly_of_idle (State.abandon_assembler p a s)]

theorem State.takeGapTimerExpiry_of_frame {s : State} {p : Port} {a : Assembly} (h : s.assembler p = some a) :
    s.takeGapTimerExpiry p = (s.abandon p a).rest p (s.receiveSettings p).gapTicks := by
  simp only [State.takeGapTimerExpiry, h]

theorem exec_gapTimerExpiry {s : State} {p : Port} {a : Assembly} {g : Nat} (hrst : s.rstLow = false)
    (ha : s.assembler p = some a) (hg : a.gap = some g) :
    exec (.gapTimerExpiry p) s = .next ((s.abandon p a).rest p (s.receiveSettings p).gapTicks).updateWaiting := by
  rw [exec_of_possible hrst ((s.possible_gapTimerExpiry_iff p).mpr ⟨a, g, ha, hg⟩), State.effect,
    State.takeGapTimerExpiry_of_frame ha]

/-- Settles O11: an abandonment leaves the assembler IDLE, so that the address is taken as on an idle line. -/
theorem earlyAddressAndGapAbandonFrame : Obligations.EarlyAddressAndGapAbandonFrame := by
  unfold Obligations.EarlyAddressAndGapAbandonFrame
  refine ⟨fun p v noisy damaged s a hrst hd ha => ?_, fun b s a g hrst ha hg => ?_, fun s a g hrst ha hg => ?_⟩
  · rw [exec_addressCharacter, exec_addressCharacter, execAddressCharacter, execAddressCharacter, State.abandon_rstLow,
      State.abandon_delivers, State.takeAddress_abandon ha, hrst, hd]
    rfl
  · exact exec_gapTimerExpiry hrst (p := .branch b) ha hg
  · exact exec_gapTimerExpiry hrst (p := .trunk) ha hg

/-! ## The next character of a frame (R9, R12) -/

section
variable {a : Assembly}

theorem Assembly.place_length (he : a.expected = none) (hc : a.count = 2) : a.place = .length := by
  simp [Assembly.place, he, hc]

theorem Assembly.place_checkLo (he : a.expected = some (a.count + 1)) : a.place = .checkLo := by
  simp [Assembly.place, he]

/-- The place of a character that does not end its frame: header or payload or CHECK HI. -/
theorem Assembly.place_of_inside (hnone : a.expected = none ↔ a.count ≤ 2) (hone : 1 ≤ a.count)
    (hlast : a.expected ≠ some (a.count + 1)) :
    a.place ≠ .checkLo ∧ (a.place = .length ↔ a.count = 2) ∧ (a.place.inHeader = true ↔ a.count ≤ 2) ∧
      (a.place.covered = true ↔ a.expected ≠ some (a.count + 2)) := by
  cases he : a.expected with
  | none =>
    have hle := hnone.mp he
    have hcases : a.count = 1 ∨ a.count = 2 := by omega
    rcases hcases with hc | hc <;> simp [Assembly.place, he, hc, Place.inHeader, Place.covered]
  | some e =>
    have hlt : ¬ a.count ≤ 2 := fun h => by rw [hnone.mpr h] at he; cases he
    have hne : a.count + 1 ≠ e := fun h => hlast (by rw [he, h])
    by_cases hhi : a.count + 2 = e
    · subst hhi
      have htwo : a.count ≠ 2 := by omega
      simp [Assembly.place, he, Place.inHeader, Place.covered, htwo]
      omega
    · have htwo : a.count ≠ 2 := by omega
      have hhi' : e ≠ a.count + 2 := fun h => hhi h.symm
      simp [Assembly.place, he, hne, hhi, hhi', Place.inHeader, Place.covered, htwo]
      omega

end

section
variable {s : State} {p : Port} {v : Byte} {noisy damaged : Bool} {a : Assembly}

theorem State.takeData_of_frame (ha : s.assembler p = some a) : s.takeData p v noisy damaged =
    ((s.takeInFrame p v noisy damaged a).onReceiver p Receiver.endCharacter).countNoise p noisy := by
  simp only [State.takeData, ha]

/-- The frame with its next character, marked, and the gap timer loaded anew. -/
def Assembly.next (a : Assembly) (ls : LineSettings) (v : Byte) (noisy damaged : Bool) : Assembly :=
  { (a.take v).mark ls.format.noiseStrict noisy damaged with gap := some ls.gapTicks }

theorem State.takeInFrame_of_inside (hlong : ¬ (a.place = .length ∧ 64 < v.toNat)) (hlo : a.place ≠ .checkLo) :
    s.takeInFrame p v noisy damaged a =
      ((s.storeChar a v).setAssembler p (some (a.next (s.receiveSettings p) v noisy damaged))).hear p := by
  simp only [State.takeInFrame, hlong, hlo, ↓reduceIte, Assembly.next]

theorem State.takeInFrame_of_long (hplace : a.place = .length) (hlong : 64 < v.toNat) :
    s.takeInFrame p v noisy damaged a = ((s.storeChar a v).abandon p a).rest p 0 := by
  simp only [State.takeInFrame, hplace, hlong, and_self, ↓reduceIte]

theorem State.takeInFrame_of_checkLo (hplace : a.place = .checkLo) : s.takeInFrame p v noisy damaged a =
    ((s.storeChar a v).completeFrame p ((a.take v).mark (s.receiveSettings p).format.noiseStrict noisy damaged)
      (wordOf a.last v)).rest p 0 := by
  have hlength : ¬ (Place.checkLo = .length ∧ 64 < v.toNat) := fun h => nomatch h.1
  simp only [State.takeInFrame, hplace, hlength, ↓reduceIte]

end

theorem State.hear_assembler (p : Port) (s : State) : (s.hear p).assembler p = s.assembler p := by
  cases p with
  | trunk => rfl
  | branch b => simp [State.hear, State.assembler]

theorem State.countNoise_assembler (p : Port) (noisy : Bool) (s : State) : (s.countNoise p noisy).assembler p = s.assembler p := by
  cases noisy with
  | false => rfl
  | true => exact State.countPort_assembler p _ s

theorem State.updateWaiting_assembler (p : Port) (s : State) : s.updateWaiting.assembler p = s.assembler p := by
  cases p <;> rfl

/-- Settles O12: each operation at a port is one change of it; the place of the character decides what the frame takes. -/
theorem dataCharacterExtendsFrame : Obligations.DataCharacterExtendsFrame := by
  unfold Obligations.DataCharacterExtendsFrame
  refine ⟨fun s b c p t q a => ⟨State.setBranch_branch s b c p, rfl, rfl, rfl, rfl⟩,
    fun s x f quiet => ⟨rfl, rfl, rfl, s.delivers_trunk_iff, s.isHearing_trunk_iff, rfl, rfl, rfl, rfl, rfl, rfl⟩,
    fun s b x f quiet => ⟨rfl, rfl, rfl, s.delivers_branch_iff b, s.isHearing_branch_iff b, rfl, rfl, rfl, rfl, rfl, rfl⟩,
    fun a v s => ⟨fun h => ?_, fun n h => ?_⟩, fun p v noisy damaged s a hrst hd ha hnone hone hlong hlast => ?_⟩
  · simp only [State.storeChar, h]
  · simp only [State.storeChar, h]; rfl
  · obtain ⟨hlo, hlength, hheader, hcovered⟩ := Assembly.place_of_inside hnone hone hlast
    have hshort : ¬ (a.place = .length ∧ 64 < v.toNat) := fun ⟨hp, hv⟩ => by have := hlong (hlength.mp hp); omega
    refine ⟨_, a.next (s.receiveSettings p) v noisy damaged, exec_dataCharacter hrst hd v noisy damaged, ?_, rfl, rfl, ?_, ?_, ?_,
      rfl, ?_, rfl, rfl, ?_⟩
    · rw [State.updateWaiting_assembler, State.takeData_of_frame ha, State.countNoise_assembler, State.onReceiver_assembler,
        State.takeInFrame_of_inside hshort hlo, State.hear_assembler, State.setAssembler_assembler]
    · simp only [Assembly.next, Assembly.mark, Assembly.take, hlength]
    · simp only [Assembly.next, Assembly.mark, Assembly.take, hcovered, ite_not, ne_eq]
    · simp only [Assembly.next, Assembly.mark, Assembly.take, Bool.and_eq_true, hheader, Option.isNone_iff_eq_none]
    · rfl
    · rw [State.takeData_of_frame ha, State.takeInFrame_of_inside hshort hlo]
      rfl

/-! ## The last character of a frame (R13) -/

theorem State.completeFrame_of_bad {a : Assembly} {w : Word} (h : a.spoiled = true ∨ a.check ≠ w) (p : Port) (s : State) :
    s.completeFrame p a w = s.abandon p a := by
  have hbad : (a.spoiled || !(a.check == w)) = true := by simpa using h
  rw [State.completeFrame, if_pos hbad]

theorem State.completeFrame_of_valid {a : Assembly} {w : Word} (hs : a.spoiled = false) (hc : a.check = w) (p : Port) (s : State) :
    s.completeFrame p a w = ((s.countPort p .framesIn).setAssembler p none).deliver p a := by
  have hgood : ¬ (a.spoiled || !(a.check == w)) = true := by simp [hs, hc]
  rw [State.completeFrame, if_neg hgood]

theorem controlFields (c : Byte) : (controlSeq c).toNat = c.toNat % 32 ∧
    (controlKind c = .datagram ↔ c.toNat / 32 = 0) ∧ (controlKind c = .request ↔ c.toNat / 32 = 1) ∧
    (controlKind c = .reply ↔ c.toNat / 32 = 2) ∧ (controlKind c = .fault ↔ c.toNat / 32 = 3) := by
  revert c
  decide +kernel

/-- Settles O13: the place of the character is LENGTH or CHECK LO, and at CHECK LO the frame's marks and check decide. -/
theorem dataCharacterEndsFrame : Obligations.DataCharacterEndsFrame := by
  unfold Obligations.DataCharacterEndsFrame
  refine ⟨fun p v noisy damaged s a hrst hd ha he hc hlong => ?_, fun p v noisy damaged s a hrst hd ha hcount he => ?_,
    fun s a => ⟨fun n hn => ?_, fun hn => ?_⟩, controlFields⟩
  · rw [exec_dataCharacter hrst hd, State.takeData_of_frame ha, State.takeInFrame_of_long (Assembly.place_length he hc) hlong]
    rfl
  · have hplace := Assembly.place_checkLo he
    have hcheck : ((a.take v).mark (s.receiveSettings p).format.noiseStrict noisy damaged).check = a.check := by
      simp [Assembly.mark, Assembly.take, hplace, Place.covered]
    have hheader : ((a.take v).mark (s.receiveSettings p).format.noiseStrict noisy damaged).header = a.header := by
      simp [Assembly.mark, Assembly.take, hplace, Place.inHeader]
    intro spoiled u after
    refine ⟨fun hbad => ?_, ?_⟩
    · rw [exec_dataCharacter hrst hd, State.takeData_of_frame ha, State.takeInFrame_of_checkLo hplace,
        State.completeFrame_of_bad (hcheck.symm ▸ hbad)]
      rw [State.abandon_congr (c := a) rfl]
      rfl
    · intro counted hs hc
      rw [exec_dataCharacter hrst hd, State.takeData_of_frame ha, State.takeInFrame_of_checkLo hplace,
        State.completeFrame_of_valid hs (hcheck.trans hc)]
      have hdeliver := State.deliver_congr (a := (a.take v).mark (s.receiveSettings p).format.noiseStrict noisy damaged)
        (c := { a with count := a.count + 1 }) rfl rfl hheader p ((u.countPort p .framesIn).setAssembler p none)
      cases p <;> exact congrArg (fun w => Host.Outcome.next (after w)) hdeliver
  · simp only [State.deliver, hn]
    exact ⟨rfl, fun b => rfl⟩
  · simp only [State.deliver, hn]
    exact ⟨trivial, fun b => trivial⟩

/-! ## Abandonment (R14, R56, R57) -/

section
variable {s : State} {b : Branch} {x : Slot}

/-- Below the attempt limit a slot that holds its reservation goes back to READY with it (R57). -/
theorem State.attemptFailed_of_held (h : x.attempts < x.retries.val + 1) (hheld : x.phase.holdsReservation = true) (f : Failure) :
    s.attemptFailed b x f = s.setBranch b { s.branch b with slot := some { x with phase := .ready, lastFailure := some f } } := by
  have hlimit : ({ x with lastFailure := some f } : Slot).attempts < ({ x with lastFailure := some f } : Slot).attemptLimit := h
  simp only [State.attemptFailed, hlimit, hheld, ↓reduceIte]
  rfl

/-- Below the attempt limit a slot without a reservation takes one again and goes back to READY (R57, R96). -/
theorem State.attemptFailed_of_not_held (h : x.attempts < x.retries.val + 1) (hheld : x.phase.holdsReservation = false) (f : Failure) :
    s.attemptFailed b x f = s.reserve.setBranch b
      { s.branch b with slot := some { x with phase := .ready, lastFailure := some f } } := by
  have hlimit : ({ x with lastFailure := some f } : Slot).attempts < ({ x with lastFailure := some f } : Slot).attemptLimit := h
  simp only [State.attemptFailed, hlimit, hheld, ↓reduceIte, Bool.false_eq_true]
  rfl

/-- At the attempt limit the slot closes (R57). -/
theorem State.attemptFailed_of_limit (h : x.retries.val + 1 ≤ x.attempts) (f : Failure) :
    s.attemptFailed b x f = s.closeSlot b { x with lastFailure := some f } f.reason := by
  have hlimit : ¬ ({ x with lastFailure := some f } : Slot).attempts < ({ x with lastFailure := some f } : Slot).attemptLimit :=
    Nat.not_lt.mpr h
  simp only [State.attemptFailed, hlimit, ↓reduceIte]

theorem State.replyAbandoned_of_receiving {n : BufferId} {f : Option Nat} (hslot : (s.branch b).slot = some x)
    (hphase : x.phase = .receiving n f) :
    s.replyAbandoned b = (s.countBranch b .badReply).attemptFailed b x .badReply := by
  simp only [State.replyAbandoned, hslot, hphase]

end

theorem State.abandon_stored {a : Assembly} {n : BufferId} (h : a.store = some n) (b : Branch) (s : State) :
    s.abandon (.branch b) a =
      ((s.setBranch b { (s.branch b).count .damaged with assembler := none }).free n).replyAbandoned b := by
  simp only [State.abandon, State.tellOwner, State.abandonFrame_branch, h, State.free?]

/-- Settles O14: the buffer is freed, and the slot that was receiving it goes back to READY or closes. -/
theorem abandonmentEndsFrame : Obligations.AbandonmentEndsFrame := by
  unfold Obligations.AbandonmentEndsFrame
  refine ⟨fun s n => ⟨rfl, rfl, rfl⟩, fun s a => ?_, fun b s a hstore => ?_, fun b s a n x f hstore hslot hphase => ?_⟩
  · cases h : a.store <;> simp only [State.abandon, State.tellOwner, State.abandonFrame, h] <;> rfl
  · simp only [State.abandon, State.tellOwner, State.abandonFrame_branch, hstore, State.free?]
  · intro u
    have hnot : x.phase.holdsReservation = false := by rw [hphase]; rfl
    have hu : ((s.setBranch b { (s.branch b).count .damaged with assembler := none }).free n).countBranch b .badReply = u := by
      have hcommute : ∀ v : State, (v.free n).countBranch b .badReply = (v.countBranch b .badReply).free n := fun _ => rfl
      rw [hcommute, State.countBranch_eq, State.setBranch_setBranch, State.setBranch_same]
      rfl
    have hopen : (((s.setBranch b { (s.branch b).count .damaged with assembler := none }).free n).branch b).slot = some x := by
      rw [State.free_branch, State.setBranch_same]
      exact hslot
    rw [State.abandon_stored hstore, State.replyAbandoned_of_receiving hopen hphase, hu]
    exact ⟨fun h => State.attemptFailed_of_not_held h hnot _, fun h => State.attemptFailed_of_limit h _⟩

/-! ## Leading edges (R156) -/

/-- Settles O15: both events are possible as their iff says, and their effects are what they are. -/
theorem startBitAndFalseStart : Obligations.StartBitAndFalseStart := by
  unfold Obligations.StartBitAndFalseStart
  refine ⟨fun p s hrst hd hchar => ⟨?_, ?_⟩, fun p s hrst hh hchar => ⟨fun ha => ?_, fun a ha => ?_⟩⟩
  · cases p with
    | trunk => rfl
    | branch b => simp [State.hear, State.isHearing]
  · exact exec_of_possible hrst ((s.possible_startBit_iff p).mpr ⟨hd, hchar⟩)
  · rw [exec_of_possible hrst ((s.possible_falseStart_iff p).mpr ⟨hh, hchar⟩), State.effect, State.takeFalseStart,
      State.onReceiver_assembler, ha]
    rfl
  · rw [exec_of_possible hrst ((s.possible_falseStart_iff p).mpr ⟨hh, hchar⟩), State.effect, State.takeFalseStart,
      State.onReceiver_assembler, ha]
    cases p <;> simp [State.receiveSettings, State.onReceiver, LineSettings.gapTicks] <;> rfl

end Sys2Proof.Machine
end

section
/-! PROOFS. The slot and the line of a branch (Sections 3 and 6): O26 to O29, O31, O34, O35. -/

namespace Sys2Proof.Machine

/-! ## Transmission of a request (R45, R47) -/

section
variable {s : State} {b : Branch} {x : Slot}

theorem State.takeSendStart_eq (hslot : (s.branch b).slot = some x) : s.takeSendStart b =
    s.setBranch b { s.branch b with
      slot := some { x with phase := .sending, attempts := x.attempts + 1 }
      line := .driving .frame
      sending := some (Transmission.start (s.frameChars x.request) (s.branch b).settings)
      receiver := Receiver.fresh
      phase := 0
      counters := (if 2 ≤ x.attempts + 1 then (s.branch b).count .retries else s.branch b).counters } := by
  unfold State.takeSendStart
  rw [hslot]
  dsimp only
  split
  · rw [State.countBranch, State.onBranch_onBranch]
    rfl
  · rfl

/-- The driver's release leaves all but line, transmission and receiver (R163). -/
theorem State.takeEndOfTransmission_eq (hslot : (s.branch b).slot = some x) : s.takeEndOfTransmission b =
    s.setBranch b { ((s.branch b).count .framesOut).releaseDriver with
      slot := some { x with phase := .waiting (2 * x.replyLimit.toNat * (s.branch b).settings.ct) } } := by
  unfold State.takeEndOfTransmission
  rw [hslot]
  dsimp only
  rw [State.countBranch, State.onBranch_onBranch]
  rfl

end

/-- Settles O26: the count, the slot and the drive are one change of the branch. -/
theorem sendStartDrivesRequest : Obligations.SendStartDrivesRequest := by
  unfold Obligations.SendStartDrivesRequest
  intro s b x q hrst hslot hphase hline
  have hpossible := (s.possible_sendStart_iff b).mpr ⟨⟨x, hslot, hphase⟩, q, hline⟩
  rw [exec_of_possible hrst hpossible, State.effect, State.takeSendStart_eq hslot]
  rfl

/-- Settles O27: the release of the driver goes by the pin's level. -/
theorem endOfTransmissionStartsWait : Obligations.EndOfTransmissionStartsWait := by
  unfold Obligations.EndOfTransmissionStartsWait
  intro s b x tx hrst hslot hphase hline hsending heard
  have hpossible := (s.possible_endOfTransmission_iff b).mpr ⟨⟨x, hslot, hphase⟩, hline, tx, hsending⟩
  have heq : s.takeEndOfTransmission b = s.setBranch b { s.branch b with
      slot := some { x with phase := .waiting (2 * x.replyLimit.toNat * (s.branch b).settings.ct) }
      line := heard.1, sending := none, receiver := heard.2
      counters := ((s.branch b).count .framesOut).counters } := by
    rw [State.takeEndOfTransmission_eq hslot, BranchPort.releaseDriver]
    simp only [heard, BranchPort.count]
    cases (s.branch b).receiver.level <;> rfl
  refine ⟨_, exec_of_possible hrst hpossible, ?_, by rw [State.effect, heq]⟩
  rw [State.effect, heq, State.updateWaiting_branch, State.setBranch_same, BranchPort.driverEnabled]
  simp only [heard]
  cases (s.branch b).receiver.level <;> rfl

/-! ## A failed attempt and the close of a slot (R51, R57, R58) -/

/-- Settles O28: the slot held its reservation while it waited. -/
theorem replyTimerExpiryRetriesOrCloses : Obligations.ReplyTimerExpiryRetriesOrCloses := by
  unfold Obligations.ReplyTimerExpiryRetriesOrCloses
  intro s b x left hrst hslot hphase u
  have hpossible := (s.possible_replyTimerExpiry_iff b).mpr ⟨x, left, hslot, hphase⟩
  have heq : s.takeReplyTimerExpiry b = u.attemptFailed b x .noReply := by
    simp only [State.takeReplyTimerExpiry, hslot]
    rfl
  have hheld : x.phase.holdsReservation = true := by rw [hphase]; rfl
  rw [exec_of_possible hrst hpossible, State.effect, heq]
  exact ⟨fun h => by rw [State.attemptFailed_of_held h hheld], fun h => by rw [State.attemptFailed_of_limit h]; rfl⟩

theorem SlotPhase.holdsReservation_iff (ph : SlotPhase) :
    ph.holdsReservation = true ↔ ph = .ready ∨ ph = .sending ∨ ∃ left, ph = .waiting left := by
  cases ph <;> simp [SlotPhase.holdsReservation]

/-- An append reads of the pool the buffers alone, and writes nothing of it. -/
theorem State.setPool_appendUpstream {p : Pool} {s : State} (h : p.buffers = s.pool.buffers) (i : UpItem) :
    (s.setPool p).appendUpstream i = (s.appendUpstream i).setPool p := by
  have htrunk : ((s.setPool p).appendUpstream i).trunk = (s.appendUpstream i).trunk :=
    State.appendUpstream_trunk_congr i _ _ rfl h
  rw [State.appendUpstream_eq i (s.setPool p), State.appendUpstream_eq i s, htrunk]
  rfl

theorem State.unreserve_appendUpstream (i : UpItem) (s : State) : (s.appendUpstream i).unreserve = s.unreserve.appendUpstream i := by
  have hpool : s.unreserve.appendUpstream i = (s.appendUpstream i).setPool { s.pool with reserved := s.pool.reserved - 1 } :=
    State.setPool_appendUpstream (p := { s.pool with reserved := s.pool.reserved - 1 }) rfl i
  rw [hpool, State.unreserve, State.appendUpstream_pool]

/-- Settles O29: the release of the reservation commutes with the append, and count and close are one change of the branch. -/
theorem slotClosesWithFault : Obligations.SlotClosesWithFault := by
  unfold Obligations.SlotClosesWithFault
  intro s b x r fault held
  have hclosed : ∀ w : State, ((w.countBranch b .faults).onBranch b fun p =>
      { p with slot := none, lastClosed := some { localAddress := x.localAddress, seq := x.seq } }) =
      w.setBranch b { w.branch b with
        slot := none, lastClosed := some { localAddress := x.localAddress, seq := x.seq }
        counters := ((w.branch b).count .faults).counters } := fun w => State.countBranch_onBranch_closed b .faults _ w
  by_cases hheld : x.phase.holdsReservation = true
  · refine ⟨s.pool.reserved - 1, fun _ => rfl, fun h => absurd (x.phase.holdsReservation_iff.mp hheld) h, ?_⟩
    simp only [State.closeSlot, hheld, ↓reduceIte, hclosed, State.unreserve_appendUpstream, State.appendUpstream_branch]
    rfl
  · refine ⟨s.pool.reserved, fun h => absurd (x.phase.holdsReservation_iff.mpr h) hheld, fun _ => rfl, ?_⟩
    simp only [State.closeSlot, if_neg hheld, hclosed, State.appendUpstream_branch]
    rfl

/-! ## DATAGRAMs (R121, R122) -/

theorem State.releaseRef_of_last {s : State} {n : BufferId} (h : (s.desc n).refs ≤ 1) : s.releaseRef n = s.free n := if_pos h

theorem State.releaseRef_of_more {s : State} {n : BufferId} (h : 1 < (s.desc n).refs) : s.releaseRef n =
    State.setBuffer n { chars := s.chars n, desc := { s.desc n with refs := (s.desc n).refs - 1 } } s :=
  if_neg (Nat.not_le.mpr h)

/-- Settles O31: the reference is released between the count and the driver's release, neither of which reads the pool. -/
theorem datagramStartAndEnd : Obligations.DatagramStartAndEnd := by
  unfold Obligations.DatagramStartAndEnd
  refine ⟨fun s b n rest q hrst hqueue hkind hslot hline => ?_, fun s b n tx hrst hdatagram hline hsending => ?_⟩
  · rw [exec_of_possible hrst ((s.possible_datagramStart_iff b).mpr ⟨⟨n, rest, hqueue, hkind⟩, hslot, q, hline⟩), State.effect,
      State.takeDatagramStart, hqueue]
    rfl
  · intro heard u released
    have hpossible := (s.possible_datagramEnd_iff b).mpr ⟨by rw [hdatagram]; nofun, hline, tx, hsending⟩
    have hrelease : ∀ w : State, w.branch b = (s.branch b).count .framesOut →
        (w.onBranch b fun p => { p.releaseDriver with datagram := none }) = w.setBranch b { s.branch b with
          datagram := none, line := heard.1, sending := none, receiver := heard.2
          counters := ((s.branch b).count .framesOut).counters } := by
      intro w hw
      rw [State.onBranch_eq, hw, BranchPort.releaseDriver]
      simp only [heard, BranchPort.count]
      cases (s.branch b).receiver.level <;> rfl
    have hcount : (s.countBranch b .framesOut).branch b = (s.branch b).count .framesOut := by simp [State.countBranch]
    have hheld : ((s.countBranch b .framesOut).branch b).datagram = some n := by rw [hcount]; exact hdatagram
    have hdesc : (s.countBranch b .framesOut).desc n = s.desc n := by simp
    rw [exec_of_possible hrst hpossible]
    simp only [State.effect, State.takeDatagramEnd, hheld, State.releaseRef?]
    refine ⟨fun h => ?_, fun h => ?_⟩
    · rw [State.releaseRef_of_more (hdesc ▸ h), hrelease _ (by rw [State.setBuffer_branch, hcount])]
      have hset : ∀ x q, (State.setBuffer n x (s.countBranch b .framesOut)).setBranch b q = State.setBuffer n x (s.setBranch b q) := by
        intro x q
        have hcomm : (State.setBuffer n x (s.countBranch b .framesOut)).setBranch b q =
          State.setBuffer n x ((s.countBranch b .framesOut).setBranch b q) := rfl
        rw [hcomm, State.countBranch_eq, State.setBranch_setBranch]
      rw [hset]
      simp
      rfl
    · rw [State.releaseRef_of_last (hdesc ▸ h), hrelease _ (by rw [State.free_branch, hcount])]
      have hset : ∀ q, ((s.countBranch b .framesOut).free n).setBranch b q = (s.setBranch b q).free n := by
        intro q
        have hcomm : ((s.countBranch b .framesOut).free n).setBranch b q = ((s.countBranch b .framesOut).setBranch b q).free n := rfl
        rw [hcomm, State.countBranch_eq, State.setBranch_setBranch]
      rw [hset]

/-! ## The line (R114 to R124, R144, R145, R162) -/

/-- Settles O34: JAMS and the admission are one change of the branch before the flush. -/
theorem jamClosesBranch : Obligations.JamClosesBranch := by
  unfold Obligations.JamClosesBranch
  intro s b j hrst hline u
  rw [exec_of_possible hrst ((s.possible_jam_iff b).mpr ⟨j, hline⟩), State.effect, State.takeJam, State.closeBranch, State.countBranch,
    State.onBranch_onBranch]
  rfl

/-- Settles O35: each event is possible as its iff says, and is one change of its port. -/
theorem lineEventsMoveLineState : Obligations.LineEventsMoveLineState := by
  unfold Obligations.LineEventsMoveLineState
  refine ⟨rfl, ⟨fun s b j hrst hl => ?_, fun s hrst hl => ?_, fun s b c hrst hl hs => ?_, fun s c hrst hl => ?_,
    fun s b k hrst hl => ?_⟩, fun s tx hrst ht => ?_, fun s b tx hrst ht => ?_⟩
  · exact exec_of_possible hrst ((s.isBreakIn_branch_iff b).mpr ⟨j, hl⟩)
  · exact exec_of_possible hrst (s.isBreakIn_trunk_iff.mpr hl)
  · exact exec_of_possible hrst ((s.isSettling_branch_iff b).mpr ⟨⟨c, hl⟩, hs⟩)
  · exact exec_of_possible hrst (s.isSettling_trunk_iff.mpr ⟨c, hl⟩)
  · exact exec_of_possible hrst ((s.possible_breakEmissionEnd_iff b).mpr ⟨k, hl⟩)
  · exact exec_of_possible hrst (s.possible_stoppedCharacterEnd_trunk_iff.mpr ⟨tx, ht⟩)
  · intro done
    have hdone : ∀ l r, (s.branch b).line.finishesStopped = true →
        (s.branch b).stoppedCharacterEnd = { s.branch b with line := l, sending := none, receiver := r } → done l r := by
      intro l r hfinish heq
      have hexec := exec_of_possible hrst ((s.possible_stoppedCharacterEnd_iff b).mpr ⟨hfinish, tx, ht⟩)
      rw [State.effect, State.takeStoppedCharacterEnd, State.onBranch_eq, heq] at hexec
      exact hexec
    refine ⟨fun hl => ?_, fun hl => ?_, fun hl => ?_, fun c hl => ?_⟩
    · exact hdone _ _ (by rw [hl]; rfl) (by simp only [BranchPort.stoppedCharacterEnd, ht, hl]; rfl)
    · exact hdone _ _ (by rw [hl]; rfl) (by simp only [BranchPort.stoppedCharacterEnd, ht, hl]; rfl)
    · exact hdone _ _ (by rw [hl]; rfl) (by simp only [BranchPort.stoppedCharacterEnd, ht, hl])
    · exact hdone _ _ (by rw [hl]; rfl) (by simp only [BranchPort.stoppedCharacterEnd, ht, hl]; rfl)

end Sys2Proof.Machine
end

section
/-! PROOFS. The flush of a branch (R105, R111, R112) and the distribution of a broadcast (R74): O18, O33. -/

namespace Sys2Proof.Machine

/-! ## The flush of the queue -/

section
variable {b : Branch} {u : State} {n : BufferId}

theorem State.flushEntry_of_request {r : RoutePart} (hkind : (u.desc n).kind = .request) (hroute : (u.desc n).route = some r) :
    u.flushEntry b n =
      (u.buildFault n r.trunkAddress (u.desc n).seq .aborted b.number 0).appendUpstream (.frame n .nothing) := by
  simp only [State.flushEntry, hkind, hroute]

theorem State.flushEntry_of_other (hkind : (u.desc n).kind ≠ .request) : u.flushEntry b n = u.releaseRef n := by
  unfold State.flushEntry
  split
  case h_1 h _ => exact absurd h hkind
  case h_2 => rfl

end

/-- The ABORTED fault that the flush builds over a queued REQUEST (R111, R112). -/
def abortedFault (b : Branch) (x : Buffer) (r : RoutePart) : Buffer :=
  { chars := faultFrame r.trunkAddress x.desc.seq .aborted b.number 0
    desc := { x.desc with length := 8, kind := .fault, refs := 1, route := none } }

/-- What the flush of these entries makes of the pool and of what is bound for the master. -/
structure State.FlushedTo (b : Branch) (u : State) (l : List BufferId) (t : State) : Prop where
  items : t.trunkItems = u.trunkItems ++ (l.filter fun n => decide ((u.desc n).kind = .request)).map fun n => .frame n .nothing
  request : ∀ n ∈ l, ∀ r, (u.desc n).kind = .request → (u.desc n).route = some r → t.buffer n = abortedFault b (u.buffer n) r
  reference : ∀ n ∈ l, (u.desc n).kind ≠ .request →
    t.buffer n = { chars := u.chars n, desc := { u.desc n with refs := (u.desc n).refs - 1 } }
  other : ∀ m, m ∉ l → t.buffer m = u.buffer m
  free : t.pool.free = u.pool.free ++
    (l.filter fun n => decide ((u.desc n).kind ≠ .request)).filter fun n => decide ((u.desc n).refs ≤ 1)
  reserved : t.pool.reserved = u.pool.reserved

theorem State.appendUpstream_trunkItems (s : State) (i : UpItem) : (s.appendUpstream i).trunkItems = s.trunkItems ++ [i] :=
  State.appendUpstream_items i s

/-- One entry: a REQUEST is answered, a DATAGRAM released. -/
theorem State.flushEntry_flushedTo {b : Branch} {u : State} {n : BufferId}
    (hroute : (u.desc n).kind = .request → (u.desc n).route ≠ none) : State.FlushedTo b u [n] (u.flushEntry b n) := by
  by_cases hkind : (u.desc n).kind = .request
  · obtain ⟨r, hr⟩ := Option.ne_none_iff_exists'.mp (hroute hkind)
    rw [State.flushEntry_of_request hkind hr]
    have hbuffer : ∀ m, ((u.buildFault n r.trunkAddress (u.desc n).seq .aborted b.number 0).appendUpstream
        (.frame n .nothing)).buffer m = if m = n then abortedFault b (u.buffer n) r else u.buffer m := fun m => by
      rw [State.appendUpstream_buffer, State.buildFault_buffer]
      rfl
    refine ⟨?_, fun m hm r' _ hr' => ?_, fun m hm hne => ?_, fun m hm => ?_, ?_, ?_⟩
    · simp only [State.appendUpstream_trunkItems, List.filter_cons, hkind, decide_true, ↓reduceIte, List.filter_nil, List.map_cons, List.map_nil]
      rfl
    · obtain rfl := List.mem_singleton.mp hm
      obtain rfl : r = r' := Option.some.inj (hr.symm.trans hr')
      rw [hbuffer, if_pos rfl]
    · obtain rfl := List.mem_singleton.mp hm
      exact absurd hkind hne
    · rw [hbuffer, if_neg fun h => hm (List.mem_singleton.mpr h)]
    · simp [hkind]
    · simp
  · rw [State.flushEntry_of_other hkind]
    refine ⟨?_, fun m hm r' hr _ => ?_, fun m hm _ => ?_, fun m hm => ?_, ?_, State.releaseRef_reserved n u⟩
    · simp [hkind, State.trunkItems]
    · obtain rfl := List.mem_singleton.mp hm
      exact absurd hr hkind
    · obtain rfl := List.mem_singleton.mp hm
      rw [State.releaseRef_buffer, if_pos rfl]
      rfl
    · rw [State.releaseRef_buffer, if_neg fun h => hm (List.mem_singleton.mpr h)]
    · rw [State.releaseRef_free]
      by_cases hrefs : (u.desc n).refs ≤ 1 <;> simp [hkind, hrefs]

/-- One list of entries after another, none in both. -/
theorem State.FlushedTo.cons {b : Branch} {u v t : State} {n : BufferId} {l : List BufferId} (hn : n ∉ l)
    (h : State.FlushedTo b u [n] v) (h' : State.FlushedTo b v l t) : State.FlushedTo b u (n :: l) t := by
  have hkeep : ∀ m ∈ l, v.buffer m = u.buffer m := fun m hm =>
    h.other m fun he => hn (List.mem_singleton.mp he ▸ hm)
  have hdesc : ∀ m ∈ l, v.desc m = u.desc m := fun m hm => congrArg Buffer.desc (hkeep m hm)
  have hfilter : ∀ (p : Descriptor → Bool), (l.filter fun m => p (v.desc m)) = l.filter fun m => p (u.desc m) :=
    fun p => List.filter_congr fun m hm => by rw [hdesc m hm]
  have hself : ∀ m, m = n → t.buffer m = v.buffer m := fun m hm => h'.other m fun he => hn (hm ▸ he)
  refine ⟨?_, fun m hm r hk hr => ?_, fun m hm hk => ?_, fun m hm => ?_, ?_, h'.reserved.trans h.reserved⟩
  · rw [h'.items, h.items, hfilter fun d => decide (d.kind = .request), List.append_assoc, ← List.map_append, ← List.filter_append]
    rfl
  · rcases List.mem_cons.mp hm with hmn | hml
    · rw [hself m hmn]
      exact h.request m (List.mem_singleton.mpr hmn) r hk hr
    · rw [h'.request m hml r ((hdesc m hml).symm ▸ hk) ((hdesc m hml).symm ▸ hr), hkeep m hml]
  · rcases List.mem_cons.mp hm with hmn | hml
    · rw [hself m hmn]
      exact h.reference m (List.mem_singleton.mpr hmn) hk
    · have hchars : v.chars m = u.chars m := congrArg Buffer.chars (hkeep m hml)
      rw [h'.reference m hml ((hdesc m hml).symm ▸ hk), hdesc m hml, hchars]
  · rw [h'.other m fun he => hm (List.mem_cons_of_mem n he), h.other m fun he => hm (List.mem_singleton.mp he ▸ List.mem_cons_self)]
  · have hfree := h'.free
    rw [List.filter_filter, hfilter fun d => decide (d.refs ≤ 1) && decide (d.kind ≠ .request)] at hfree
    rw [hfree, h.free, List.append_assoc, List.filter_filter, List.filter_filter, ← List.filter_append]
    rfl

theorem State.foldl_flushedTo {b : Branch} (l : List BufferId) : ∀ u : State, l.Nodup →
    (∀ n ∈ l, (u.desc n).kind = .request → (u.desc n).route ≠ none) →
    State.FlushedTo b u l (l.foldl (State.flushEntry b) u) := by
  induction l with
  | nil => exact fun u _ _ => ⟨by simp, by simp, by simp, fun _ _ => rfl, by simp, rfl⟩
  | cons n l ih =>
    intro u hnodup hroute
    obtain ⟨hn, hl⟩ := List.nodup_cons.mp hnodup
    have hfirst := State.flushEntry_flushedTo (b := b) (hroute n List.mem_cons_self)
    refine hfirst.cons hn (ih _ hl fun m hm => ?_)
    have hkeep : (u.flushEntry b n).desc m = u.desc m :=
      congrArg Buffer.desc (hfirst.other m fun he => hn (List.mem_singleton.mp he ▸ hm))
    rw [hkeep]
    exact hroute m (List.mem_cons_of_mem n hm)

/-! ## The abort of the slot (R64) -/

section
variable {s : State} {b : Branch} {x : Slot}

theorem State.closeSlot_items (b : Branch) (x : Slot) (r : FaultReason) (s : State) :
    (s.closeSlot b x r).trunkItems = s.trunkItems ++ [.frame x.request .nothing] := by
  obtain ⟨reserved, -, -, heq⟩ := slotClosesWithFault s b x r
  rw [heq]
  exact State.appendUpstream_items _ _

theorem State.free?_trunkItems (n : Option BufferId) (s : State) : (s.free? n).trunkItems = s.trunkItems := by
  cases n <;> rfl

theorem State.free?_free (n : Option BufferId) (s : State) : (s.free? n).pool.free = s.pool.free ++ n.toList := by
  cases n with
  | none => exact (List.append_nil _).symm
  | some n => rfl

theorem State.free?_reserved (n : Option BufferId) (s : State) : (s.free? n).pool.reserved = s.pool.reserved := by
  cases n <;> rfl

theorem State.free?_buffer {n : Option BufferId} {m : BufferId} (h : n ≠ some m) (s : State) : (s.free? n).buffer m = s.buffer m := by
  cases n with
  | none => rfl
  | some k =>
    have hne : m ≠ k := fun he => h (congrArg some he.symm)
    exact (State.free_buffer k m s).trans (if_neg hne)

/-- The answers of an aborted slot: one ABORTED fault, or none where the slot was EMPTY. -/
theorem State.abortSlot_items (b : Branch) (s : State) :
    (s.abortSlot b).trunkItems = s.trunkItems ++ ((s.branch b).slot.toList.map fun x => UpItem.frame x.request .nothing) := by
  unfold State.abortSlot
  split
  case h_1 h => simp [h]
  case h_2 x h => rw [State.closeSlot_items, State.free?_trunkItems, h]; rfl

theorem State.abortSlot_of_open (hslot : (s.branch b).slot = some x) :
    s.abortSlot b = (s.free? x.phase.replyBuffer).closeSlot b x .aborted := by
  simp only [State.abortSlot, hslot]

theorem State.abortSlot_of_empty (hslot : (s.branch b).slot = none) : s.abortSlot b = s := by
  simp only [State.abortSlot, hslot]

theorem State.abortSlot_chars (hslot : (s.branch b).slot = some x) :
    (s.abortSlot b).chars x.request = faultFrame x.trunkAddress x.seq .aborted b.number x.attempts := by
  rw [State.chars, State.abortSlot_of_open hslot, State.closeSlot_buffer, if_pos rfl]

/-- The abort writes no buffer but the request's and the reply's. -/
theorem State.abortSlot_buffer {m : BufferId} (h : ∀ x, (s.branch b).slot = some x → m ≠ x.request ∧ x.phase.replyBuffer ≠ some m) :
    (s.abortSlot b).buffer m = s.buffer m := by
  cases hslot : (s.branch b).slot with
  | none => rw [State.abortSlot_of_empty hslot]
  | some x =>
    obtain ⟨hrequest, hreply⟩ := h x hslot
    rw [State.abortSlot_of_open hslot, State.closeSlot_buffer, if_neg hrequest, State.free?_buffer hreply]

theorem State.abortSlot_free (b : Branch) (s : State) :
    (s.abortSlot b).pool.free = s.pool.free ++ ((s.branch b).slot.toList.flatMap fun x => x.phase.replyBuffer.toList) := by
  cases hslot : (s.branch b).slot with
  | none => simp [State.abortSlot_of_empty hslot]
  | some x => rw [State.abortSlot_of_open hslot, State.closeSlot_free, State.free?_free]; simp

theorem State.abortSlot_reserved (b : Branch) (s : State) :
    (s.abortSlot b).pool.reserved = s.pool.reserved - if (s.branch b).holdsReservation then 1 else 0 := by
  cases hslot : (s.branch b).slot with
  | none => simp [State.abortSlot_of_empty hslot, BranchPort.holdsReservation, hslot]
  | some x => rw [State.abortSlot_of_open hslot, State.closeSlot_reserved, State.free?_reserved]; simp [BranchPort.holdsReservation, hslot]

end

/-! ## The flush (R111) -/

theorem State.releaseRef?_trunkItems (d : Option BufferId) (s : State) : (s.releaseRef? d).trunkItems = s.trunkItems := by
  cases d <;> simp [State.releaseRef?, State.trunkItems]

theorem State.releaseRef?_reserved (d : Option BufferId) (s : State) : (s.releaseRef? d).pool.reserved = s.pool.reserved := by
  cases d <;> simp [State.releaseRef?]

theorem State.releaseRef?_buffer_of_ne {d : Option BufferId} {m : BufferId} (h : d ≠ some m) (s : State) :
    (s.releaseRef? d).buffer m = s.buffer m := by
  cases d with
  | none => rfl
  | some k =>
    have hne : m ≠ k := fun he => h (congrArg some he.symm)
    exact (State.releaseRef_buffer k m s).trans (if_neg hne)

theorem State.releaseRef?_free (d : Option BufferId) (s : State) :
    (s.releaseRef? d).pool.free = s.pool.free ++ d.toList.filter fun n => decide ((s.desc n).refs ≤ 1) := by
  cases d with
  | none => exact (List.append_nil _).symm
  | some n =>
    rw [State.releaseRef?, State.releaseRef_free]
    by_cases h : (s.desc n).refs ≤ 1 <;> simp [h]

section
variable {s : State} {b : Branch}

/-- The entries of the queue are flushed as the queue stood, where neither of the slot's buffers is among them. -/
theorem State.flushQueue_flushedTo (hnodup : (s.branch b).queue.Nodup)
    (hslot : ∀ x, (s.branch b).slot = some x → x.request ∉ (s.branch b).queue ∧
      ∀ n, x.phase.replyBuffer = some n → n ≠ x.request ∧ n ∉ (s.branch b).queue)
    (hroute : ∀ n ∈ (s.branch b).queue, (s.desc n).kind = .request → (s.desc n).route ≠ none) :
    State.FlushedTo b (s.abortSlot b) (s.branch b).queue (s.flushQueue b) := by
  have hkeep : ∀ n ∈ (s.branch b).queue, (s.abortSlot b).buffer n = s.buffer n := fun n hn =>
    State.abortSlot_buffer fun x hx =>
      ⟨fun he => (hslot x hx).1 (he ▸ hn), fun he => ((hslot x hx).2 n he).2 hn⟩
  have hstart := State.foldl_flushedTo (b := b) (s.branch b).queue
    ((s.abortSlot b).onBranch b fun p => { p with queue := [], assembler := none }) hnodup fun n hn => by
      have hdesc : ((s.abortSlot b).onBranch b fun p => { p with queue := [], assembler := none }).desc n = s.desc n := by
        rw [State.onBranch_desc]; exact congrArg Buffer.desc (hkeep n hn)
      rw [hdesc]
      exact hroute n hn
  obtain ⟨h1, h2, h3, h4, h5, h6⟩ := hstart
  simp only [State.onBranch_desc, State.onBranch_chars, State.onBranch_buffer] at h1 h2 h3 h4 h5 h6
  exact ⟨h1, h2, h3, h4, h5, h6⟩

end

theorem SlotPhase.replyBuffer_iff (ph : SlotPhase) (n : BufferId) : ph.replyBuffer = some n ↔ ∃ f, ph = .receiving n f := by
  cases ph <;> simp [SlotPhase.replyBuffer]

/-- Settles O33: the flush is the slot's abort, the queue's entries one by one, and the transmitter's reference; no buffer is in
two of the three. -/
theorem flushAnswersInQueueOrder : Obligations.FlushAnswersInQueueOrder := by
  unfold Obligations.FlushAnswersInQueueOrder
  refine ⟨SlotPhase.replyBuffer_iff, fun s b hnodup hslot hdatagram hroute => ?_⟩
  intro t requests
  have hqueue := State.flushQueue_flushedTo hnodup hslot hroute
  have ht : t = ((s.flushQueue b).releaseRef? (s.branch b).datagram).onBranch b fun p => { p with datagram := none } := s.flush_eq b
  have hkeep : ∀ n ∈ (s.branch b).queue, (s.abortSlot b).buffer n = s.buffer n := fun n hn =>
    State.abortSlot_buffer fun x hx =>
      ⟨fun he => (hslot x hx).1 (he ▸ hn), fun he => ((hslot x hx).2 n he).2 hn⟩
  have hdesc : ∀ n ∈ (s.branch b).queue, (s.abortSlot b).desc n = s.desc n := fun n hn => congrArg Buffer.desc (hkeep n hn)
  have hchars : ∀ n ∈ (s.branch b).queue, (s.abortSlot b).chars n = s.chars n := fun n hn => congrArg Buffer.chars (hkeep n hn)
  have hfilter : ∀ (p : Descriptor → Bool), ((s.branch b).queue.filter fun m => p ((s.abortSlot b).desc m)) =
      (s.branch b).queue.filter fun m => p (s.desc m) := fun p => List.filter_congr fun m hm => by rw [hdesc m hm]
  have hlast : ∀ m, (s.branch b).datagram ≠ some m → t.buffer m = (s.flushQueue b).buffer m := fun m hm => by
    rw [ht, State.onBranch_buffer, State.releaseRef?_buffer_of_ne hm]
  have hinqueue : ∀ n ∈ (s.branch b).queue, (s.branch b).datagram ≠ some n := fun n hn he => (hdatagram n he).1 hn
  have hbranch : t.branch b = { (s.abortSlot b).branch b with queue := [], assembler := none, datagram := none } := s.flush_branch b
  refine ⟨?items, fun x hx => ?slot, fun n hn r hr => ?requests, ?_, ?_, ?_, ?_, ?_, ?_, fun x hx => ?_, fun hx => ?_,
    fun c hc => s.flush_of_ne b hc, s.flush_map b, s.flush_agent b, fun hreply => ?pool⟩
  case items =>
    have hitems : t.trunkItems = (s.flushQueue b).trunkItems := by
      rw [ht]; exact State.releaseRef?_trunkItems _ _
    rw [hitems, hqueue.items, State.abortSlot_items, hfilter fun d => decide (d.kind = .request)]
  case slot =>
    obtain ⟨hrequest, -⟩ := hslot x hx
    have hbuffer : t.buffer x.request = (s.abortSlot b).buffer x.request := by
      rw [hlast _ fun he => (hdatagram _ he).2 x hx rfl, hqueue.other _ hrequest]
    rw [State.chars, hbuffer]
    exact State.abortSlot_chars hx
  case requests =>
    obtain ⟨hmem, hkind⟩ := List.mem_filter.mp hn
    have hfault : t.buffer n = abortedFault b (s.buffer n) r := by
      rw [hlast n (hinqueue n hmem), hqueue.request n hmem r (by rw [hdesc n hmem]; exact of_decide_eq_true hkind)
        (by rw [hdesc n hmem]; exact hr), hkeep n hmem]
    exact ⟨congrArg Buffer.chars hfault, congrArg (fun x => x.desc.kind) hfault⟩
  case pool =>
    intro reply references held
    have hd : ∀ n, (s.branch b).datagram = some n → (s.flushQueue b).buffer n = s.buffer n := fun n hn => by
      obtain ⟨hnot, hrequest⟩ := hdatagram n hn
      rw [hqueue.other n hnot]
      exact State.abortSlot_buffer fun x hx => ⟨fun he => hrequest x hx he.symm, fun he => hreply x n hx he hn⟩
    have hreserved : t.pool.reserved = s.pool.reserved - if (s.branch b).holdsReservation then 1 else 0 := by
      have hsame : t.pool.reserved = ((s.flushQueue b).releaseRef? (s.branch b).datagram).pool.reserved := by rw [ht]; rfl
      rw [hsame, State.releaseRef?_reserved, hqueue.reserved, State.abortSlot_reserved]
    have hheld : (s.branch b).holdsReservation = true ↔ held := by
      cases hx : (s.branch b).slot <;> simp [BranchPort.holdsReservation, hx, held, SlotPhase.holdsReservation_iff]
    refine ⟨?_, fun n hn _ => ?_, fun h => ?_, fun h => ?_⟩
    · have hfree : t.pool.free = ((s.flushQueue b).releaseRef? (s.branch b).datagram).pool.free := by rw [ht]; rfl
      have hdatagrams : ((s.branch b).datagram.toList.filter fun n => decide (((s.flushQueue b).desc n).refs ≤ 1)) =
          (s.branch b).datagram.toList.filter fun n => decide ((s.desc n).refs ≤ 1) :=
        List.filter_congr fun n hn => by
          rw [State.desc, hd n (Option.mem_toList.mp hn), State.desc]
      have hentries := hfilter fun d => decide (d.refs ≤ 1) && decide (d.kind ≠ .request)
      rw [hfree, State.releaseRef?_free, hqueue.free, State.abortSlot_free, hdatagrams, List.filter_filter, hentries]
      simp only [references, reply, List.filter_append, List.filter_filter, List.append_assoc]
    · rcases List.mem_append.mp hn with hn | hn
      · obtain ⟨hmem, hkind⟩ := List.mem_filter.mp hn
        rw [hlast n (hinqueue n hmem), hqueue.reference n hmem (by rw [hdesc n hmem]; exact of_decide_eq_true hkind),
          hdesc n hmem, hchars n hmem]
      · have hn' : (s.branch b).datagram = some n := Option.mem_toList.mp hn
        have hbuffer : t.buffer n = ((s.flushQueue b).releaseRef n).buffer n := by rw [ht, State.onBranch_buffer, hn']; rfl
        rw [hbuffer, State.releaseRef_buffer, if_pos rfl, State.desc, hd n hn']
        rfl
    · rw [hreserved, if_pos (hheld.mpr h)]
    · rw [hreserved, if_neg fun hh => h (hheld.mp hh)]
      rfl
  all_goals rw [hbranch]
  · exact s.abortSlot_slot b
  · rw [State.abortSlot_branch]; split <;> rfl
  · rw [State.abortSlot_branch]; split <;> rfl
  · rw [State.abortSlot_branch]; simp only [hx]
  · rw [State.abortSlot_branch]; simp only [hx]

/-! ## Broadcast (R74) -/

section
variable {s : State} {n : BufferId}

theorem State.routeStored_of_broadcast (haddress : charAt (s.chars n) 0 = 0xFF) (hkind : (s.desc n).kind = .datagram) :
    s.routeStored n = s.routeBroadcast n := by
  simp only [State.routeStored, haddress, hkind, ↓reduceIte, show (0xFF : Byte) ≠ 0x00 by decide]

theorem State.routeBroadcast_of_none (h : s.broadcastTakers.length = 0) :
    s.routeBroadcast n = ({ s with branches := s.branches.map (BranchPort.broadcast? n) } : State).discard n := by
  simp only [State.routeBroadcast, h, ↓reduceIte]

theorem State.routeBroadcast_of_some (h : s.broadcastTakers.length ≠ 0) : s.routeBroadcast n =
    State.setBuffer n { s.buffer n with desc := { s.desc n with refs := s.broadcastTakers.length } }
      { s with branches := s.branches.map (BranchPort.broadcast? n) } := by
  simp only [State.routeBroadcast, h, ↓reduceIte]
  rfl

theorem State.routeBroadcast_branch (b : Branch) : (s.routeBroadcast n).branch b = (s.branch b).broadcast? n := by
  have hmap : ({ s with branches := s.branches.map (BranchPort.broadcast? n) } : State).branch b = (s.branch b).broadcast? n :=
    PerBranch.get_map _ _ b
  by_cases h : s.broadcastTakers.length = 0
  · rw [State.routeBroadcast_of_none h, State.discard, State.free_branch]
    exact hmap
  · rw [State.routeBroadcast_of_some h, State.setBuffer_branch]
    exact hmap

end

/-- Settles O18: a branch takes a reference or counts the drop, and the buffer has as many references as were taken. -/
theorem routerDistributesBroadcast : Obligations.RouterDistributesBroadcast := by
  unfold Obligations.RouterDistributesBroadcast
  intro n s haddress hkind takes takers t
  have ht : t = s.routeBroadcast n := State.routeStored_of_broadcast haddress hkind
  have htakes : ∀ b, (s.branch b).takesBroadcast = takes b := fun b => by
    rw [Bool.eq_iff_iff, BranchPort.takesBroadcast_iff]
    exact decide_eq_true_iff.symm
  have htakers : s.broadcastTakers.length = takers := by
    simp only [State.broadcastTakers, htakes]
    rfl
  have hbranch : ∀ b, t.branch b = if takes b then { s.branch b with queue := (s.branch b).queue ++ [n] }
      else (s.branch b).count .queueDrops := fun b => by
    rw [ht, State.routeBroadcast_branch, BranchPort.broadcast?, htakes]
  refine ⟨fun b hb => by rw [hbranch, if_pos hb], fun b hb => by rw [hbranch, hb]; rfl, fun h => ?_, fun h => ?_, ?_⟩
  · rw [ht, State.routeBroadcast_of_some (htakers ▸ h)]
    refine ⟨?_, ?_, rfl, rfl⟩
    · rw [State.chars, State.setBuffer_buffer_same]; rfl
    · rw [State.desc, State.setBuffer_buffer_same, htakers]
  · rw [ht, State.routeBroadcast_of_none (htakers ▸ h)]
    exact ⟨rfl, rfl⟩
  · by_cases h : s.broadcastTakers.length = 0
    · rw [ht, State.routeBroadcast_of_none h]
      exact ⟨fun m hm => (State.free_buffer n m _).trans (if_neg hm), rfl, rfl⟩
    · rw [ht, State.routeBroadcast_of_some h]
      exact ⟨fun m hm => State.setBuffer_buffer_of_ne _ _ hm, rfl, rfl⟩

end Sys2Proof.Machine
end

section
/-! PROOFS. The trunk transmitter and the pending trunk setting (Section 7): O36, O37. -/

namespace Sys2Proof.Machine

/-! ## The transmitter (R138, R141) -/

theorem State.takeTransmissionEnd_of_sending {s : State} {item : UpItem} {tx : Transmission}
    (h : s.trunk.transmitter = .sending item tx) : s.takeTransmissionEnd =
      ((((s.setTrunk { s.trunk.count .framesOut with transmitter := .spacing s.trunk.txSettings.ctCycles }).releaseItem
        item).carriedTakesEffect item).onTrunk TrunkPort.space) := by
  simp only [State.takeTransmissionEnd, h]
  rfl

/-- Settles O36: an IDLE transmitter starts the head of the queue, and the end of a transmission goes by what its item is and
carries. -/
theorem trunkTransmitterSendsInOrder : Obligations.TrunkTransmitterSendsInOrder := by
  unfold Obligations.TrunkTransmitterSendsInOrder
  refine ⟨fun _ _ _ => rfl, fun _ _ => rfl, fun s left hrst ht => ?_, fun s item tx hrst ht => ?_⟩
  · have hexec := exec_of_possible hrst (s.possible_spacingEnd_iff.mpr ⟨left, ht⟩)
    rw [State.effect, State.takeSpacingEnd] at hexec
    refine ⟨fun hq => ?_, fun item rest hq => ?_⟩
    · have hstart := State.startIfIdle_of_empty (s := s.onTrunk fun t => { t with transmitter := .idle }) hq
      rw [hexec, hstart]
      rfl
    · have hstart := State.startIfIdle_of_head (s := s.onTrunk fun t => { t with transmitter := .idle }) rfl hq
      rw [hexec, hstart]
      exact congrArg (fun chars => Host.Outcome.next (s.setTrunk { s.trunk with
        upstream := rest, transmitter := .sending item (Transmission.start chars s.trunk.txSettings) }).updateWaiting)
        (State.setTrunk_itemChars _ item s)
  · intro counted u done
    have hexec := exec_of_possible hrst (s.possible_transmissionEnd_iff.mpr ⟨item, tx, ht⟩)
    rw [State.effect, State.takeTransmissionEnd_of_sending ht] at hexec
    refine ⟨fun n hitem => ?_, fun n hitem => ?_, fun n hitem => ?_, fun r hitem => ?_⟩ <;> subst hitem <;> exact hexec

/-! ## The pending setting (R142, R187) -/

theorem TrunkPort.atRest_iff (t : TrunkPort) : t.atRest = true ↔ t.line ≠ .hearing ∧ t.assembler = none := by
  simp [TrunkPort.atRest]

theorem TrunkPort.not_atRest_iff (t : TrunkPort) : ¬ t.atRest = true ↔ t.line = .hearing ∨ t.assembler ≠ none := by
  rw [TrunkPort.atRest_iff, not_and_or, not_ne_iff]

/-- The line of a receive half that takes up a setting: a settling starts anew. -/
theorem TrunkPort.takeUpReceive_line (ls : LineSettings) (t : TrunkPort) :
    ((∃ c, t.line = .settling c) → (t.takeUpReceive ls).line = .settling 0) ∧
    ((∀ c, t.line ≠ .settling c) → (t.takeUpReceive ls).line = t.line) := by
  cases h : t.line <;> simp [TrunkPort.takeUpReceive, h]

section
variable {s : State} {p : PendingSetting}

theorem State.settingTakesEffect_of_rest (hp : s.agent.pendingSetting = some p) (hphase : p.phase = .awaiting)
    (hrest : s.trunk.atRest = true) : s.settingTakesEffect =
      (s.setTrunk ({ s.trunk with txSettings := p.settings }.takeUpReceive p.settings)).setAgent
        { s.agent with pendingSetting := none } := by
  have hrest' : (s.onTrunk fun t => { t with txSettings := p.settings }).trunk.atRest = true := hrest
  simp only [State.settingTakesEffect, hp, hphase, hrest', ↓reduceIte]
  rfl

theorem State.settingTakesEffect_of_busy (hp : s.agent.pendingSetting = some p) (hphase : p.phase = .awaiting)
    (hrest : ¬ s.trunk.atRest = true) : s.settingTakesEffect =
      (s.setTrunk { s.trunk with txSettings := p.settings }).setAgent
        { s.agent with pendingSetting := some { p with phase := .takingUp } } := by
  have hrest' : ¬ (s.onTrunk fun t => { t with txSettings := p.settings }).trunk.atRest = true := hrest
  simp only [State.settingTakesEffect, hp, hphase, hrest']
  rfl

theorem State.receiveAtRest_of_rest (hp : s.agent.pendingSetting = some p) (hphase : p.phase = .takingUp)
    (hrest : s.trunk.atRest = true) : s.receiveAtRest =
      (s.setTrunk (s.trunk.takeUpReceive p.settings)).setAgent { s.agent with pendingSetting := none } := by
  simp only [State.receiveAtRest, hp, hphase, hrest, ↓reduceIte]
  rfl

theorem State.receiveAtRest_of_busy (hrest : ¬ s.trunk.atRest = true) : s.receiveAtRest = s := by
  unfold State.receiveAtRest
  split
  · rfl
  · split
    · rfl
    · exact if_neg hrest

theorem State.receiveAtRest_of_not_takingUp (h : ∀ ls, s.agent.pendingSetting ≠ some { settings := ls, phase := .takingUp }) :
    s.receiveAtRest = s := by
  unfold State.receiveAtRest
  split
  case h_1 => rfl
  case h_2 p hp =>
    split
    case h_1 => rfl
    case h_2 hphase => exact absurd (hp.trans (by rw [← hphase])) (h p.settings)

end

/-- Settles O37: the receive half at rest takes the setting up at once; otherwise it waits in the phase of being taken up. -/
theorem pendingSettingTakesEffect : Obligations.PendingSettingTakesEffect := by
  unfold Obligations.PendingSettingTakesEffect
  refine ⟨fun s ls hp => ⟨fun hrest => ?_, fun hbusy => ?_⟩, fun s ls hp => ⟨fun hrest => ?_, fun hbusy => ?_⟩,
    fun s h => State.receiveAtRest_of_not_takingUp h⟩
  · have hline := TrunkPort.takeUpReceive_line ls { s.trunk with txSettings := ls }
    refine ⟨_, ?_, hline⟩
    rw [State.settingTakesEffect_of_rest hp rfl (s.trunk.atRest_iff.mpr hrest), TrunkPort.takeUpReceive_same]
  · exact State.settingTakesEffect_of_busy hp rfl (s.trunk.not_atRest_iff.mpr hbusy)
  · have hline := TrunkPort.takeUpReceive_line ls s.trunk
    refine ⟨_, ?_, hline⟩
    rw [State.receiveAtRest_of_rest hp rfl (s.trunk.atRest_iff.mpr hrest), TrunkPort.takeUpReceive_same]
  · exact State.receiveAtRest_of_busy (s.trunk.not_atRest_iff.mpr hbusy)

/-- A pending setting that ends on a receive half at rest is taken up by both halves, or by the receive half alone when the
transmit half had it (R143, R149). -/
theorem State.settingEnds_of_rest {s : State} (hrest : s.trunk.atRest = true) :
    s.settingEnds.agent.pendingSetting = none ∧
    ((∃ c, s.trunk.line = .settling c) → s.settingEnds.trunk.line = .settling 0 ∨ s.settingEnds.trunk.line = s.trunk.line) ∧
    (s.agent.pendingSetting = none →
      s.settingEnds.trunk.rxSettings = s.trunk.rxSettings ∧ s.settingEnds.trunk.txSettings = s.trunk.txSettings) ∧
    (∀ p, s.agent.pendingSetting = some p → s.settingEnds.trunk.rxSettings = p.settings ∧
      (p.phase = .awaiting → s.settingEnds.trunk.txSettings = p.settings)) := by
  unfold State.settingEnds
  cases hp : s.agent.pendingSetting with
  | none =>
    have hfirst : s.settingTakesEffect = s := by simp only [State.settingTakesEffect, hp]
    rw [hfirst, State.receiveAtRest_of_not_takingUp fun ls h => by rw [hp] at h; cases h]
    exact ⟨hp, fun _ => .inr rfl, fun _ => ⟨rfl, rfl⟩, nofun⟩
  | some p =>
    cases hphase : p.phase with
    | awaiting =>
      have hfirst := State.settingTakesEffect_of_rest hp hphase hrest
      have hnone : s.settingTakesEffect.agent.pendingSetting = none := by rw [hfirst]; rfl
      rw [State.receiveAtRest_of_not_takingUp fun ls h => by rw [hnone] at h; cases h]
      refine ⟨hnone, fun h => .inl ?_, nofun, fun q hq => ?_⟩
      · rw [hfirst]
        exact (TrunkPort.takeUpReceive_line _ _).1 h
      · obtain rfl := Option.some.inj hq
        rw [hfirst, TrunkPort.takeUpReceive_same]
        exact ⟨rfl, fun _ => rfl⟩
    | takingUp =>
      have hfirst : s.settingTakesEffect = s := by simp only [State.settingTakesEffect, hp, hphase]
      rw [hfirst, State.receiveAtRest_of_rest hp hphase hrest]
      refine ⟨rfl, fun h => .inl ((TrunkPort.takeUpReceive_line _ _).1 h), nofun, fun q hq => ?_⟩
      obtain rfl := Option.some.inj hq
      rw [TrunkPort.takeUpReceive_same]
      exact ⟨rfl, fun h => by rw [hphase] at h; cases h⟩

end Sys2Proof.Machine
end

section
/-! PROOFS. A restart that takes effect, and a trunk line reset (Section 7, R143, R147 to R150, R194): O39, O40. -/

namespace Sys2Proof.Machine

/-! ## What a restart leaves of each part -/

/-- A restart up to the end of a pending trunk setting. -/
def State.restarted (s : State) : State :=
  ((({ s with branches := s.branches.map BranchPort.restart }.setPool Pool.initial).setTrunk s.trunk.restart).setAgent
    { s.agent with queue := [], restartPending := false, responseVoid := false, left := 0 })

theorem State.restartTakesEffect_eq (s : State) : s.restartTakesEffect = s.restarted.settingEnds := rfl

theorem State.restarted_branch (b : Branch) (s : State) : s.restarted.branch b = (s.branch b).restart :=
  PerBranch.get_map _ _ b

theorem State.restarted_atRest (s : State) : s.restarted.trunk.atRest = true := by
  rw [TrunkPort.atRest_iff]
  exact ⟨nofun, rfl⟩

theorem TrunkPort.counter_of_zero {t : TrunkPort} (h : t.counters = CounterBank.zero 13) (c : TrunkCounter) : t.counter c = 0 := by
  rw [TrunkPort.counter, h]
  exact CounterBank.zero_get _

theorem BranchPort.counter_of_zero {p : BranchPort} (h : p.counters = CounterBank.zero 16) (c : BranchCounter) : p.counter c = 0 := by
  rw [BranchPort.counter, h]
  exact CounterBank.zero_get _

theorem BranchPort.restartLine_line (p : BranchPort) :
    (p.line = .off → p.restartLine.line = .off ∧ p.restartLine.sending = p.sending) ∧
    (∀ a, p.line = .driving a →
      p.restartLine.line = .driving .settle ∧ p.restartLine.sending = p.sending.map Transmission.cutShort) ∧
    (p.line ≠ .off → (∀ a, p.line ≠ .driving a) →
      p.restartLine.line = .settling 0 ∧ p.restartLine.receiver.IsAtRest ∧ p.restartLine.sending = p.sending) := by
  cases hl : p.line with
  | off => simp [BranchPort.restartLine, hl]
  | driving a =>
    simp [BranchPort.restartLine, hl]
    rfl
  | _ => simp [BranchPort.restartLine, BranchPort.goSettling, Receiver.IsAtRest, Receiver.fresh, hl]

/-- Settles O40: the restarted part, field by field, and then the end of a pending setting on its receive half at rest. -/
theorem restartKeepsConfiguration : Obligations.RestartKeepsConfiguration := by
  unfold Obligations.RestartKeepsConfiguration
  intro s t
  obtain ⟨hpool, hmap, hbranches, hagent, -, htrunk⟩ := s.restarted.settingEnds_same
  obtain ⟨hpending, hline, hsame, hsettings⟩ := State.settingEnds_of_rest s.restarted_atRest
  rw [← State.restartTakesEffect_eq] at hpool hmap hbranches hagent htrunk hpending hline hsame hsettings
  have hbranch : ∀ b, t.branch b = (s.branch b).restart := fun b => by
    rw [← State.restarted_branch]
    unfold State.branch
    rw [hbranches]
  have hcounters : t.trunk.counters = CounterBank.zero 13 := by rw [htrunk]; rfl
  have hsettling : t.trunk.line = .settling 0 := (hline ⟨0, rfl⟩).elim id id
  refine ⟨?_, ?_, ?_, hmap, ?_, ?_, ?_, ?_, hpending, ?_, ?_, ?_, hsettling, ?_, TrunkPort.counter_of_zero hcounters, hcounters,
    ?_, hsame, hsettings, fun b => ?_⟩
  · rw [hpool]; exact Pool.initial_free
  · rw [hpool]; rfl
  · rw [hpool]; rfl
  · rw [hagent]; rfl
  · rw [hagent]; rfl
  · rw [hagent]; rfl
  · rw [hagent]; rfl
  · rw [htrunk]; rfl
  · rw [htrunk]; rfl
  · rw [htrunk]; rfl
  · rw [htrunk]; exact s.trunk.transmitter.stop_spec
  · rw [hcounters]; rfl
  · have hzero : (t.branch b).counters = CounterBank.zero 16 := by rw [hbranch]; rfl
    obtain ⟨hoff, hdriving, hother⟩ := (s.branch b).restartLine_line
    rw [hbranch, BranchPort.restart_eq] at hzero ⊢
    exact ⟨rfl, rfl, rfl, rfl, rfl, hoff, hdriving, hother, BranchPort.counter_of_zero hzero, hzero, rfl, rfl, rfl, rfl, rfl, rfl, rfl⟩

/-! ## A trunk line reset (R147 to R150) -/

theorem State.updateWaiting_of_empty {s : State} (hq : ∀ b, (s.branch b).queue = []) :
    s.updateWaiting.pool.waiting = [] :=
  List.eq_nil_iff_forall_not_mem.mpr fun b hb => by
    have heligible := (s.mem_updateWaiting_iff b).mp hb
    rw [State.not_eligible_of_empty (s := s.updateWaiting) (hq b)] at heligible
    cases heligible

/-- The trunk goes to BREAK_IN, and BREAKS is counted (R147). -/
def State.breakIn (s : State) : State :=
  (s.countTrunk .breaks).onTrunk fun t => { t with line := .breakIn, receiver := t.receiver.breakTaken }

section
variable (s : State)

theorem State.breakIn_pool : s.breakIn.pool = s.pool := rfl
theorem State.breakIn_map : s.breakIn.map = s.map := rfl
theorem State.breakIn_branches : s.breakIn.branches = s.branches := rfl
theorem State.breakIn_agent : s.breakIn.agent = s.agent := rfl
theorem State.breakIn_line : s.breakIn.trunk.line = .breakIn := rfl
theorem State.breakIn_trunk : s.breakIn.trunk =
    { s.trunk with counters := (s.trunk.count .breaks).counters, line := .breakIn, receiver := s.trunk.receiver.breakTaken } := rfl

/-- A trunk line reset up to the end of a pending setting. -/
def State.brokenIn : State := s.discardTraffic.restartAtReset.breakIn

theorem State.takeTrunkLineReset_brokenIn : s.takeTrunkLineReset = s.brokenIn.settingEnds := rfl

/-- The trunk of a trunk line reset, before the end of a pending setting. -/
theorem State.brokenIn_trunk : s.brokenIn.trunk = { s.trunk with
    assembler := none, upstream := [], refusals := [], transmitter := s.trunk.transmitter.stop, line := .breakIn
    receiver := s.trunk.receiver.breakTaken, counters := (s.discardTraffic.restartAtReset.trunk.count .breaks).counters } := by
  obtain ⟨-, -, hrestart, -⟩ := State.restartAtReset_same s.discardTraffic
  obtain ⟨hdiscard, -⟩ := s.discardTraffic_same
  rw [State.brokenIn, State.breakIn_trunk, TrunkPort.count, hrestart, hdiscard]

theorem State.brokenIn_agent : s.brokenIn.agent = { s.agent with
    queue := s.agent.queue.take 1, responseVoid := s.agent.responseVoid || !s.agent.queue.isEmpty, restartPending := false } := by
  obtain ⟨-, hrestart, -⟩ := State.restartAtReset_same s.discardTraffic
  obtain ⟨-, hdiscard, -⟩ := s.discardTraffic_same
  rw [State.brokenIn, State.breakIn_agent, hrestart, hdiscard]

theorem State.brokenIn_map : s.brokenIn.map = s.map := by
  obtain ⟨hrestart, -⟩ := State.restartAtReset_same s.discardTraffic
  obtain ⟨-, -, hdiscard, -⟩ := s.discardTraffic_same
  rw [State.brokenIn, State.breakIn_map, hrestart, hdiscard]

theorem State.brokenIn_line : s.brokenIn.trunk.line = .breakIn := by rw [State.brokenIn, State.breakIn_line]

theorem State.takeTrunkLineReset_pool : s.takeTrunkLineReset.pool = s.discardTraffic.restartAtReset.pool := by
  obtain ⟨hpool, -⟩ := s.brokenIn.settingEnds_same
  rw [State.takeTrunkLineReset_brokenIn, hpool, State.brokenIn, State.breakIn_pool]

/-- The branches of a trunk line reset: what R128 leaves of them, with the counters a pending restart zeroed. -/
theorem State.takeTrunkLineReset_branch (b : Branch) : s.takeTrunkLineReset.branch b =
    { (s.branch b).silentReset with counters := (s.discardTraffic.restartAtReset.branch b).counters } := by
  obtain ⟨-, -, hbranches, -⟩ := s.brokenIn.settingEnds_same
  obtain ⟨-, -, -, hrestart, -⟩ := State.restartAtReset_same s.discardTraffic
  obtain ⟨-, -, -, -, hdiscard, -⟩ := s.discardTraffic_same
  have hbranch : s.takeTrunkLineReset.branch b = s.discardTraffic.restartAtReset.branch b := by
    unfold State.branch
    rw [State.takeTrunkLineReset_brokenIn, hbranches, State.brokenIn, State.breakIn_branches]
  rw [hbranch, hrestart, hdiscard]

theorem State.takeTrunkLineReset_queue (b : Branch) : (s.takeTrunkLineReset.branch b).queue = [] := by
  rw [State.takeTrunkLineReset_branch]; rfl

theorem BranchPort.ResetSilently.counters {p q : BranchPort} (h : p.ResetSilently q) (c : CounterBank 16) :
    p.ResetSilently { q with counters := c } := by
  obtain ⟨heq, hline⟩ := h
  exact ⟨by rw [heq], hline⟩

theorem State.takeTrunkLineReset_resetSilently (b : Branch) : (s.branch b).ResetSilently (s.takeTrunkLineReset.branch b) := by
  rw [State.takeTrunkLineReset_branch]
  exact (s.branch b).silentReset_spec.counters _

theorem State.takeTrunkLineReset_waiting : s.takeTrunkLineReset.updateWaiting.pool.waiting = [] :=
  State.updateWaiting_of_empty s.takeTrunkLineReset_queue

theorem State.takeTrunkLineReset_counters :
    s.takeTrunkLineReset.trunk.counters = (s.discardTraffic.restartAtReset.trunk.count .breaks).counters := by
  obtain ⟨-, -, -, -, -, htrunk⟩ := s.brokenIn.settingEnds_same
  rw [State.takeTrunkLineReset_brokenIn, htrunk, State.brokenIn_trunk]

theorem State.takeTrunkLineReset_agent : s.takeTrunkLineReset.agent = { s.agent with
    queue := s.agent.queue.take 1, responseVoid := s.agent.responseVoid || !s.agent.queue.isEmpty, restartPending := false
    pendingSetting := none } := by
  obtain ⟨-, -, -, hagent, -⟩ := s.brokenIn.settingEnds_same
  obtain ⟨-, hnone, -⟩ := s.brokenIn.settingEnds_breakIn s.brokenIn_line (by rw [State.brokenIn_trunk])
  rw [State.takeTrunkLineReset_brokenIn, hagent, hnone, State.brokenIn_agent]

theorem State.takeTrunkLineReset_trunk : s.takeTrunkLineReset.trunk = { s.brokenIn.trunk with
    rxSettings := s.takeTrunkLineReset.trunk.rxSettings, txSettings := s.takeTrunkLineReset.trunk.txSettings } := by
  obtain ⟨-, -, -, -, -, htrunk⟩ := s.brokenIn.settingEnds_same
  obtain ⟨hline, -⟩ := s.brokenIn.settingEnds_breakIn s.brokenIn_line (by rw [State.brokenIn_trunk])
  have heq := htrunk
  rw [hline, ← s.brokenIn_line, ← State.takeTrunkLineReset_brokenIn] at heq
  exact heq

theorem State.takeTrunkLineReset_reserved : s.takeTrunkLineReset.pool.reserved = 0 := by
  obtain ⟨-, -, -, -, -, -, hreserved, -⟩ := State.restartAtReset_same s.discardTraffic
  obtain ⟨-, -, -, -, -, hdiscard, -⟩ := s.discardTraffic_same
  rw [State.takeTrunkLineReset_pool]
  exact hreserved hdiscard

theorem State.takeTrunkLineReset_map : s.takeTrunkLineReset.map = s.map := by
  obtain ⟨-, hmap, -⟩ := s.brokenIn.settingEnds_same
  rw [State.takeTrunkLineReset_brokenIn, hmap, State.brokenIn_map]

theorem State.takeTrunkLineReset_settings :
    (s.agent.pendingSetting = none → s.takeTrunkLineReset.trunk.rxSettings = s.trunk.rxSettings ∧
      s.takeTrunkLineReset.trunk.txSettings = s.trunk.txSettings) ∧
    (∀ p, s.agent.pendingSetting = some p → s.takeTrunkLineReset.trunk.rxSettings = p.settings ∧
      s.takeTrunkLineReset.trunk.txSettings = if p.phase = .awaiting then p.settings else s.trunk.txSettings) := by
  have hsettings := s.brokenIn.settingEnds_settings s.brokenIn_line (by rw [State.brokenIn_trunk])
  rw [← State.takeTrunkLineReset_brokenIn, State.brokenIn_trunk, State.brokenIn_agent] at hsettings
  exact hsettings

end

section
variable {s t : State}

theorem State.updateWaiting_reserved (s : State) : s.updateWaiting.pool.reserved = s.pool.reserved := rfl

theorem State.updateWaiting_free (s : State) : s.updateWaiting.pool.free = s.pool.free := rfl

theorem State.trunkItems_of_stopped {u : TrunkTransmitter} (ht : t.trunk.transmitter = u.stop) (hq : t.trunk.upstream = []) :
    t.trunkItems = [] := by
  refine (State.trunkItems_of_not_sending fun item tx h => ?_).trans hq
  rw [ht] at h
  cases u <;> cases h

/-- What every trunk line reset does on the trunk and in the agent, with a restart pending or without. -/
theorem State.takeTrunkLineReset_trunkReset (s : State) : TrunkReset s s.takeTrunkLineReset.updateWaiting := by
  have htrunk := s.takeTrunkLineReset_trunk
  have hagent := s.takeTrunkLineReset_agent
  have hsettings := s.takeTrunkLineReset_settings
  have hmap := s.takeTrunkLineReset_map
  have hreserved := s.takeTrunkLineReset_reserved
  have hwaiting := s.takeTrunkLineReset_waiting
  rw [State.brokenIn_trunk] at htrunk
  rw [← State.updateWaiting_trunk] at htrunk hsettings
  rw [← State.updateWaiting_agent] at hagent
  rw [← State.updateWaiting_map] at hmap
  rw [← State.updateWaiting_reserved] at hreserved
  generalize s.takeTrunkLineReset.updateWaiting = t at *
  have hupstream : t.trunk.upstream = [] := by rw [htrunk]
  have htransmitter : t.trunk.transmitter = s.trunk.transmitter.stop := by rw [htrunk]
  exact ⟨by rw [htrunk], by rw [htrunk]; rfl, by rw [htrunk], State.trunkItems_of_stopped htransmitter hupstream, hupstream,
    by rw [htrunk], htransmitter ▸ s.trunk.transmitter.stop_spec, hreserved, hwaiting, hmap, by rw [hagent], by rw [hagent],
    by rw [hagent], by rw [hagent], by rw [hagent], hsettings⟩

end

theorem exec_trunkLineReset_of_hearsBreak {s : State} (hrst : s.rstLow = false) (h : s.trunk.line.hearsBreak = true) :
    exec .trunkLineReset s = .next s.takeTrunkLineReset.updateWaiting := exec_of_possible hrst h

theorem Pool.restarted_free (p : Pool) (keep : Option BufferId) :
    (p.restarted keep).free = (List.finRange 32).filter fun n => decide (some n ≠ keep) := by
  cases keep with
  | none => exact Pool.initial_free.trans (by simp)
  | some n =>
    rw [Pool.restarted, Pool.initial_free]
    exact List.filter_congr fun m _ => by simp [bne, beq_eq_decide]

/-- Settles O39: what every trunk line reset does, and the counters and the pool that the restart leaves. -/
theorem trunkLineResetWithPendingRestart : Obligations.TrunkLineResetWithPendingRestart := by
  unfold Obligations.TrunkLineResetWithPendingRestart
  intro s hrst hline hpending
  obtain ⟨-, hagent, -⟩ := s.discardTraffic_same
  obtain ⟨-, -, -, -, -, hrestart, -⟩ := State.restartAtReset_same s.discardTraffic
  obtain ⟨htrunk, hbranch, hpool⟩ := hrestart (by rw [hagent]; exact hpending)
  have hcounters : s.takeTrunkLineReset.trunk.counters = (CounterBank.zero 13).count TrunkCounter.breaks.index TrunkCounter.breaks.isError := by
    rw [State.takeTrunkLineReset_counters, TrunkPort.count, htrunk]
  have hzero : ∀ b, (s.takeTrunkLineReset.branch b).counters = CounterBank.zero 16 := fun b => by
    rw [State.takeTrunkLineReset_branch]; exact hbranch b
  refine ⟨_, exec_trunkLineReset_of_hearsBreak hrst hline, s.takeTrunkLineReset_trunkReset, ?_, fun c => ?_, ?_, fun b => ⟨?_, ?_, ?_⟩, ?_⟩
  · rw [State.updateWaiting_agent, State.takeTrunkLineReset_agent]
  · rw [State.updateWaiting_trunk, TrunkPort.counter, hcounters, CounterBank.count_get, CounterBank.zero_get]
    by_cases hc : c = .breaks
    · rw [if_pos (by rw [hc]), if_pos hc]; rfl
    · rw [if_neg fun he => hc (TrunkCounter.index_inj he), if_neg hc]
  · rw [State.updateWaiting_trunk, hcounters]; rfl
  · rw [State.updateWaiting_branch]; exact s.takeTrunkLineReset_resetSilently b
  · rw [State.updateWaiting_branch]; exact BranchPort.counter_of_zero (hzero b)
  · rw [State.updateWaiting_branch, hzero]; rfl
  · have hhead : s.discardTraffic.agent.queue.head? = s.agent.queue.head? := by
      rw [hagent]; cases s.agent.queue <;> rfl
    rw [State.updateWaiting_free, State.takeTrunkLineReset_pool, hpool, Pool.restarted_free, hhead]

end Sys2Proof.Machine
end

section
/-! PROOFS. The free list at a trunk line reset (R104): what is released joins it at its last release, in the order of R104: O38. -/

namespace Sys2Proof.Machine

/-! ## Lists of releases

`State.Releases` says of an operation that it releases the buffers of a list in order. It is stated over what is still to be
released after it, so that operations compose: as long as each buffer has as many references as it is released from here on,
the free list and what is to join it stay the same list. -/

/-- Each buffer of a list has as many references as the list has releases of it, and one if it is among the `single` ones. -/
def State.Owed (single : List BufferId) (s : State) (l : List BufferId) : Prop :=
  ∀ n ∈ l, l.count n = (s.desc n).refs ∧ (n ∈ single → (s.desc n).refs = 1)

/-- The operation from s to t releases the buffers of a list, where those that it frees outright are among the `single` ones. -/
def State.Releases (single : List BufferId) (s t : State) (l : List BufferId) : Prop :=
  ∀ rest, s.Owed single (l ++ rest) →
    t.pool.free ++ rest.dedup = s.pool.free ++ (l ++ rest).dedup ∧ t.Owed single rest

section
variable {single : List BufferId} {s t u : State} {l l' : List BufferId} {n : BufferId}

theorem State.Releases.of_same (hfree : t.pool.free = s.pool.free) (hdesc : ∀ n, t.desc n = s.desc n) : s.Releases single t [] := by
  intro rest howed
  refine ⟨by rw [hfree, List.nil_append], fun n hn => ?_⟩
  rw [hdesc]
  exact howed n hn

theorem State.Releases.trans (h : s.Releases single t l) (h' : t.Releases single u l') : s.Releases single u (l ++ l') := by
  intro rest howed
  rw [List.append_assoc] at howed ⊢
  obtain ⟨hfree, howed'⟩ := h _ howed
  obtain ⟨hfree', howed''⟩ := h' _ howed'
  exact ⟨hfree'.trans hfree, howed''⟩

theorem State.Releases.then_same (h : s.Releases single t l) (hfree : u.pool.free = t.pool.free)
    (hdesc : ∀ n, u.desc n = t.desc n) : s.Releases single u l :=
  List.append_nil l ▸ h.trans (.of_same hfree hdesc)

theorem State.Releases.emptyWaiting (h : s.Releases single t l) :
    s.Releases single (t.setPool { t.pool with reserved := 0, waiting := [] }) l :=
  h.then_same rfl fun _ => rfl

theorem State.Releases.foldl {f : State → BufferId → State} (h : ∀ u, ∀ n ∈ l, State.Releases single u (f u n) [n]) :
    ∀ s : State, s.Releases single (l.foldl f s) l := by
  induction l with
  | nil => exact fun s => .of_same rfl fun _ => rfl
  | cons n l ih => exact fun s => (h s n List.mem_cons_self).trans (ih (fun u m hm => h u m (List.mem_cons_of_mem n hm)) _)

theorem State.Owed.not_mem (h : s.Owed single (n :: l)) (hrefs : (s.desc n).refs ≤ 1) : n ∉ l := by
  obtain ⟨hcount, -⟩ := h n List.mem_cons_self
  rw [List.count_cons_self] at hcount
  exact List.count_eq_zero.mp (by omega)

theorem State.Owed.tail (h : s.Owed single (n :: l)) (hsame : ∀ m ∈ l, m ≠ n → t.desc m = s.desc m)
    (hn : n ∈ l → (t.desc n).refs = (s.desc n).refs - 1) : t.Owed single l := by
  intro m hm
  obtain ⟨hcount, hsingle⟩ := h m (List.mem_cons_of_mem n hm)
  by_cases he : m = n
  · subst he
    have hpos := List.count_pos_iff.mpr hm
    rw [List.count_cons_self] at hcount
    rw [hn hm]
    exact ⟨by omega, fun hs => absurd (hsingle hs) (by omega)⟩
  · rw [List.count_cons_of_ne (Ne.symm he)] at hcount
    rw [hsame m hm he]
    exact ⟨hcount, hsingle⟩

theorem State.releases_free_of_le (hrefs : (s.desc n).refs ≤ 1) : s.Releases single (s.free n) [n] := by
  intro rest howed
  have hn : n ∉ rest := howed.not_mem hrefs
  refine ⟨?_, howed.tail (fun m _ hm => by rw [State.free_desc, if_neg hm]) fun h => absurd h hn⟩
  rw [State.free_free, List.append_assoc, List.singleton_append, List.singleton_append, List.dedup_cons_of_notMem hn]

theorem State.releases_free (hn : n ∈ single) (s : State) : s.Releases single (s.free n) [n] := by
  intro rest howed
  obtain ⟨-, hrefs⟩ := howed n List.mem_cons_self
  exact State.releases_free_of_le (hrefs hn).le rest howed

theorem State.releases_releaseRef (n : BufferId) (s : State) : s.Releases single (s.releaseRef n) [n] := by
  by_cases hrefs : (s.desc n).refs ≤ 1
  · rw [State.releaseRef_of_last hrefs]
    exact State.releases_free_of_le hrefs
  · intro rest howed
    have hdesc : ∀ m, (s.releaseRef n).desc m = if m = n then { s.desc n with refs := (s.desc n).refs - 1 } else s.desc m := by
      intro m
      unfold State.desc
      rw [State.releaseRef_buffer]
      split <;> rfl
    have hn : n ∈ rest := by
      obtain ⟨hcount, -⟩ := howed n List.mem_cons_self
      rw [List.singleton_append, List.count_cons_self] at hcount
      exact List.count_pos_iff.mp (by omega)
    refine ⟨?_, howed.tail (fun m _ hm => by rw [hdesc, if_neg hm]) fun _ => by rw [hdesc, if_pos rfl]⟩
    rw [State.releaseRef_free, if_neg hrefs, List.singleton_append, List.dedup_cons_of_mem hn]

theorem State.releases_free? {d : Option BufferId} (hd : ∀ n ∈ d, n ∈ single) (s : State) : s.Releases single (s.free? d) d.toList := by
  cases d with
  | none => exact .of_same rfl fun _ => rfl
  | some n => exact State.releases_free (hd n rfl) s

theorem State.releases_releaseRef? (d : Option BufferId) (s : State) : s.Releases single (s.releaseRef? d) d.toList := by
  cases d with
  | none => exact .of_same rfl fun _ => rfl
  | some n => exact State.releases_releaseRef n s

end

/-! ## The parts of a trunk line reset -/

/-- The buffer of an upstream item. -/
def UpItem.buffer? : UpItem → Option BufferId
  | .frame n _ => some n
  | .refusal _ => none

/-- The buffers of the trunk side: of the frame in assembly, and of what is bound for the master. -/
def State.heldOnTrunk (s : State) : List BufferId :=
  (s.trunk.assembler.bind (·.store)).toList ++ s.trunkItems.filterMap UpItem.buffer?

/-- The buffers of the slot of a branch. -/
def State.heldInSlot (s : State) (b : Branch) : List BufferId :=
  (s.branch b).slot.toList.flatMap fun x => x.phase.replyBuffer.toList ++ [x.request]

/-- The buffers of a branch. -/
def State.heldOnBranch (s : State) (b : Branch) : List BufferId :=
  (s.branch b).datagram.toList ++ s.heldInSlot b ++ (s.branch b).queue

section
variable {single : List BufferId} {s : State}

theorem State.releases_dropItem {i : UpItem} (hi : ∀ n ∈ i.buffer?, n ∈ single) (s : State) :
    s.Releases single (s.dropItem i) i.buffer?.toList := by
  cases i with
  | frame n c => exact State.releases_free (hi n rfl) s
  | refusal r => exact .of_same rfl fun _ => rfl

theorem State.releases_dropItems (l : List UpItem) : ∀ s : State, (∀ n ∈ l.filterMap UpItem.buffer?, n ∈ single) →
    s.Releases single (l.foldl State.dropItem s) (l.filterMap UpItem.buffer?) := by
  induction l with
  | nil => exact fun s _ => .of_same rfl fun _ => rfl
  | cons i l ih =>
    intro s hl
    have hcons : (i :: l).filterMap UpItem.buffer? = i.buffer?.toList ++ l.filterMap UpItem.buffer? := by
      cases i <;> rfl
    rw [hcons] at hl ⊢
    exact (State.releases_dropItem (fun n hn => hl n (List.mem_append_left _ (Option.mem_toList.mpr hn))) s).trans
      (ih _ fun n hn => hl n (List.mem_append_right _ hn))

theorem State.breakFrame_trunkItems (s : State) : (s.breakFrame .trunk).trunkItems = s.trunkItems := by
  unfold State.trunkItems State.breakFrame
  cases h : s.assembler .trunk with
  | none => rfl
  | some a => simp [State.abandonFrame, State.countPort, State.setAssembler, TrunkPort.count]

theorem State.releases_breakFrame (hstore : ∀ n ∈ s.trunk.assembler.bind (·.store), n ∈ single) :
    s.Releases single (s.breakFrame .trunk) (s.trunk.assembler.bind (·.store)).toList := by
  unfold State.breakFrame
  have hassembler : s.assembler .trunk = s.trunk.assembler := rfl
  rw [hassembler]
  cases h : s.trunk.assembler with
  | none => exact .of_same rfl fun _ => rfl
  | some a =>
    rw [h] at hstore
    have hcount : s.Releases single (s.countPort .trunk .damaged) [] := .of_same rfl fun _ => rfl
    have hfree := hcount.trans (State.releases_free? (d := a.store) hstore _)
    exact hfree.then_same (u := s.abandonFrame .trunk a) rfl fun _ => rfl

theorem State.releases_resetTrunkSide (hsingle : ∀ n ∈ s.heldOnTrunk, n ∈ single) :
    s.Releases single s.resetTrunkSide s.heldOnTrunk := by
  have hframe := State.releases_breakFrame (s := s) fun n hn =>
    hsingle n (List.mem_append_left _ (Option.mem_toList.mpr hn))
  have hdrop := State.releases_dropItems (single := single) (s.breakFrame .trunk).trunkItems (s.breakFrame .trunk) fun n hn =>
    hsingle n (List.mem_append_right _ (by rwa [State.breakFrame_trunkItems] at hn))
  rw [State.breakFrame_trunkItems] at hdrop
  exact (hframe.trans hdrop).then_same (u := s.resetTrunkSide) (by rw [← State.breakFrame_trunkItems]; rfl)
    fun _ => by rw [← State.breakFrame_trunkItems]; rfl

theorem State.releases_silentClose {b : Branch} (hsingle : ∀ n ∈ s.heldInSlot b, n ∈ single) :
    s.Releases single (s.silentClose b) (s.heldInSlot b) := by
  unfold State.silentClose State.heldInSlot at *
  cases hslot : (s.branch b).slot with
  | none => exact .of_same rfl fun n => State.onBranch_desc _ _ _ _
  | some x =>
    rw [hslot, Option.toList_some, List.flatMap_singleton] at hsingle
    rw [Option.toList_some, List.flatMap_singleton]
    have hreply := State.releases_free? (d := x.phase.replyBuffer) (fun n hn =>
      hsingle n (List.mem_append_left _ (Option.mem_toList.mpr hn))) s
    have hrequest := State.releases_free (hsingle x.request (List.mem_append_right _ List.mem_cons_self))
      (s.free? x.phase.replyBuffer)
    refine (hreply.trans hrequest).then_same ?_ fun n => ?_
    · dsimp only; split <;> rfl
    · rw [State.onBranch_desc]; dsimp only; split <;> rfl

theorem State.silentClose_queue (b : Branch) (s : State) : ((s.silentClose b).branch b).queue = (s.branch b).queue := by
  obtain ⟨-, -, -, -, hbranch, -⟩ := s.silentClose_same b
  rw [hbranch]

theorem State.releases_resetBranchSilently {b : Branch} (hsingle : ∀ n ∈ s.heldInSlot b, n ∈ single) :
    s.Releases single (s.resetBranchSilently b) (s.heldOnBranch b) := by
  have hdatagram := State.releases_releaseRef? (single := single) (s.branch b).datagram s
  have hslot := State.releases_silentClose (single := single) (s := s.releaseRef? (s.branch b).datagram) (b := b)
    (by unfold State.heldInSlot at *; rwa [State.releaseRef?_branch])
  have hqueue := State.Releases.foldl (single := single) (l := (s.branch b).queue) (f := fun s n => s.releaseRef n)
    (fun u n _ => State.releases_releaseRef n u) ((s.releaseRef? (s.branch b).datagram).silentClose b)
  have hlist : (s.releaseRef? (s.branch b).datagram).heldInSlot b = s.heldInSlot b := by
    unfold State.heldInSlot; rw [State.releaseRef?_branch]
  rw [hlist] at hslot
  have hafter : s.resetBranchSilently b =
      ((s.branch b).queue.foldl (fun s n => s.releaseRef n) ((s.releaseRef? (s.branch b).datagram).silentClose b)).onBranch b
        fun p => { p.orderEmission with queue := [], datagram := none, assembler := none } := by
    unfold State.resetBranchSilently
    dsimp only
    rw [State.silentClose_queue, State.releaseRef?_branch]
  rw [hafter]
  exact ((hdatagram.trans hslot).trans hqueue).then_same rfl fun n => State.onBranch_desc _ _ _ _

theorem State.releases_voidAgent (hsingle : ∀ n ∈ s.agent.queue.drop 1, n ∈ single) :
    s.Releases single s.voidAgent (s.agent.queue.drop 1) := by
  have hfrees := State.Releases.foldl (f := fun s n => s.free n) (fun u n hn => State.releases_free (hsingle n hn) u) s
  exact hfrees.then_same rfl fun _ => rfl

/-- A list of branches, each reset: a reset of one leaves what the others hold. -/
theorem State.releases_resetBranches (l : List Branch) (hnodup : l.Nodup) : ∀ s : State,
    (∀ b ∈ l, ∀ n ∈ s.heldInSlot b, n ∈ single) →
    s.Releases single (l.foldl State.resetBranchSilently s) (l.flatMap s.heldOnBranch) := by
  induction l with
  | nil => exact fun s _ => .of_same rfl fun _ => rfl
  | cons b l ih =>
    intro s hsingle
    obtain ⟨hb, hl⟩ := List.nodup_cons.mp hnodup
    obtain ⟨-, -, -, -, -, hother⟩ := s.resetBranchSilently_same b
    have hbranch : ∀ c ∈ l, (s.resetBranchSilently b).branch c = s.branch c := fun c hc =>
      hother c fun he => hb (he ▸ hc)
    have hheld : l.flatMap (s.resetBranchSilently b).heldOnBranch = l.flatMap s.heldOnBranch :=
      List.flatMap_congr fun c hc => by unfold State.heldOnBranch State.heldInSlot; rw [hbranch c hc]
    have hrest := ih hl (s.resetBranchSilently b) fun c hc => by
      unfold State.heldInSlot
      rw [hbranch c hc]
      exact hsingle c (List.mem_cons_of_mem b hc)
    rw [hheld] at hrest
    exact (State.releases_resetBranchSilently (hsingle b List.mem_cons_self)).trans hrest

/-- All that a trunk line reset releases, in the order of R104. -/
def State.heldInAll (s : State) : List BufferId :=
  s.heldOnTrunk ++ Branch.all.flatMap s.heldOnBranch ++ s.agent.queue.drop 1

/-- The buffers among them that have one holder. -/
def State.heldSingly (s : State) : List BufferId :=
  s.heldOnTrunk ++ Branch.all.flatMap s.heldInSlot ++ s.agent.queue.drop 1

theorem State.mem_heldSingly {n : BufferId} : n ∈ s.heldSingly ↔
    n ∈ s.heldOnTrunk ∨ (∃ b, n ∈ s.heldInSlot b) ∨ n ∈ s.agent.queue.drop 1 := by
  have hall : ∀ b : Branch, b ∈ Branch.all := fun b => by cases b <;> decide
  simp [State.heldSingly, hall]

theorem State.releases_discardTraffic (s : State) : s.Releases s.heldSingly s.discardTraffic s.heldInAll := by
  obtain ⟨hbranches, hagent, -⟩ := s.resetTrunkSide_same
  have hbranch : ∀ b, s.resetTrunkSide.branch b = s.branch b := fun b => by unfold State.branch; rw [hbranches]
  have hheld : s.resetTrunkSide.heldOnBranch = s.heldOnBranch := by
    funext b; unfold State.heldOnBranch State.heldInSlot; rw [hbranch]
  obtain ⟨-, hagent', -⟩ := State.resetBranches_same s.resetTrunkSide
  have htrunk := State.releases_resetTrunkSide (s := s) (single := s.heldSingly) fun n hn => State.mem_heldSingly.mpr (.inl hn)
  have hreset := State.releases_resetBranches (single := s.heldSingly) Branch.all (by decide) s.resetTrunkSide fun b _ n hn =>
    State.mem_heldSingly.mpr (.inr (.inl ⟨b, by unfold State.heldInSlot at *; rwa [hbranch] at hn⟩))
  rw [hheld] at hreset
  have hvoid := State.releases_voidAgent (single := s.heldSingly) (s := Branch.all.foldl State.resetBranchSilently s.resetTrunkSide)
    fun n hn => State.mem_heldSingly.mpr (.inr (.inr (by rwa [hagent', hagent] at hn)))
  rw [hagent', hagent] at hvoid
  exact ((htrunk.trans hreset).trans hvoid).emptyWaiting

theorem State.discardTraffic_free (hcount : ∀ n ∈ s.heldInAll, s.heldInAll.count n = (s.desc n).refs)
    (hsingle : ∀ n ∈ s.heldSingly, (s.desc n).refs = 1) : s.discardTraffic.pool.free = s.pool.free ++ s.heldInAll.dedup := by
  obtain ⟨hfree, -⟩ := s.releases_discardTraffic [] (by
    rw [List.append_nil]
    exact fun n hn => ⟨hcount n hn, hsingle n⟩)
  rwa [List.dedup_nil, List.append_nil, List.append_nil] at hfree

end

/-- Settles O38: what every trunk line reset does, and the releases in the order of R104. -/
theorem trunkLineResetDiscardsTraffic : Obligations.TrunkLineResetDiscardsTraffic := by
  unfold Obligations.TrunkLineResetDiscardsTraffic
  refine ⟨TrunkLine.hearsBreak_iff, fun s hrst hline hpending => ?_⟩
  obtain ⟨htrunk, hagent, -, -, hbranch, -⟩ := s.discardTraffic_same
  obtain ⟨-, -, -, -, hsame, -⟩ := State.restartAtReset_same s.discardTraffic
  have hrestart := hsame (by rw [hagent]; exact hpending)
  refine ⟨_, exec_trunkLineReset_of_hearsBreak hrst hline, s.takeTrunkLineReset_trunkReset, ?_, ?_, fun hcount hsingle => ?_,
    fun b => ⟨?_, ?_⟩⟩
  · rw [State.updateWaiting_agent, State.takeTrunkLineReset_agent]
  · rw [State.updateWaiting_trunk, State.takeTrunkLineReset_counters, hrestart, TrunkPort.count, htrunk]
    split <;> rfl
  · rw [State.updateWaiting_free, State.takeTrunkLineReset_pool, hrestart]
    exact State.discardTraffic_free hcount hsingle
  · rw [State.updateWaiting_branch]
    exact s.takeTrunkLineReset_resetSilently b
  · rw [State.updateWaiting_branch, State.takeTrunkLineReset_branch, hrestart, hbranch, BranchPort.silentReset_eq]

end Sys2Proof.Machine
end

section
/-! PROOFS. The operands that R213 refuses, the commands that fail their tests, and those that report alone: O41, O42. -/

namespace Sys2Proof.Machine

/-! ## How a command is read (R170, R173) -/

theorem commandCode_of_no_payload {chars : List Byte} (h : (charAt chars 2).toNat = 0) :
    commandCode chars = 0x00 ∧ commandOperands chars = [] := by
  have hzero : charAt chars 2 = 0 := BitVec.eq_of_toNat_eq h
  exact ⟨if_pos hzero, by rw [commandOperands, h]; exact List.take_zero⟩

theorem commandCode_of_payload {chars : List Byte} (h : (charAt chars 2).toNat ≠ 0) : commandCode chars = charAt chars 3 :=
  if_neg fun hzero => h (by rw [hzero]; rfl)

theorem commandOperands_of_payload {chars : List Byte} (h : 3 + (charAt chars 2).toNat ≤ chars.length) :
    (commandOperands chars).length = (charAt chars 2).toNat - 1 ∧
    ∀ i, i < (charAt chars 2).toNat - 1 → charAt (commandOperands chars) i = charAt chars (4 + i) := by
  unfold commandOperands
  refine ⟨?_, fun i hi => ?_⟩
  · rw [List.length_take, List.length_drop]
    omega
  · rw [charAt, List.getD_eq_getElem?_getD, List.getElem?_take_of_lt hi, List.getElem?_drop, ← List.getD_eq_getElem?_getD, ← charAt]

/-- Codes that name no command (R173). -/
theorem commandOf_of_unnamed {code : Byte} (h : code = 0x00 ∨ 0x0F < code.toNat) (ops : List Byte) : commandOf code ops = .unknown := by
  have hne : ∀ k : Byte, 1 ≤ k.toNat ∧ k.toNat ≤ 15 → code ≠ k := by
    rintro k ⟨hlow, hhigh⟩ rfl
    rcases h with h | h
    · subst h; exact absurd hlow (by decide)
    · omega
  simp only [commandOf, hne 0x01 (by decide), hne 0x02 (by decide), hne 0x03 (by decide), hne 0x04 (by decide),
    hne 0x05 (by decide), hne 0x06 (by decide), hne 0x07 (by decide), hne 0x08 (by decide), hne 0x09 (by decide),
    hne 0x0A (by decide), hne 0x0B (by decide), hne 0x0C (by decide), hne 0x0D (by decide), hne 0x0E (by decide),
    hne 0x0F (by decide), if_false]

/-! ## The values that are read (R213) -/

theorem toNat_of_readBranch {c : Byte} {b : Branch} (h : readBranch c = some b) : 1 ≤ c.toNat ∧ c.toNat ≤ 4 := by
  rw [eq_of_readBranch h]
  cases b <;> decide

theorem toNat_of_readPort {c : Byte} {p : Port} (h : readPort c = some p) : c.toNat ≤ 4 := by
  rw [eq_of_readPort h]
  cases p with
  | trunk => decide
  | branch b => cases b <;> decide

theorem toNat_of_readFlag {c : Byte} {f : Bool} (h : readFlag c = some f) : c.toNat ≤ 1 := by
  unfold readFlag at h
  split at h
  case isTrue hc => subst hc; decide
  case isFalse =>
    split at h
    case isTrue hc => subst hc; decide
    case isFalse => cases h

theorem toNat_of_readIndex {c : Byte} {i : Fin 16} (h : readIndex c = some i) : c.toNat ≤ 15 := by
  unfold readIndex at h
  split at h
  case isTrue hc => omega
  case isFalse => cases h

theorem toNat_of_readSizeCode {c : Byte} {k : Fin 7} (h : readSizeCode c = some k) : c.toNat ≤ 6 := by
  unfold readSizeCode at h
  split at h
  case isTrue hc => omega
  case isFalse => cases h

theorem toNat_of_readRetries {c : Byte} {r : Fin 4} (h : readRetries c = some r) : c.toNat ≤ 3 := by
  unfold readRetries at h
  split at h
  case isTrue hc => omega
  case isFalse => cases h

theorem toNat_of_readReplyLimit {c l : Byte} (h : readReplyLimit c = some l) : c.toNat ≠ 0 := by
  unfold readReplyLimit at h
  split at h
  case isTrue => cases h
  case isFalse hc => exact fun hz => hc (BitVec.eq_of_toNat_eq hz)

theorem toNat_of_readAdmit {c : Byte} {a : Admit} (h : readAdmit c = some a) : 1 ≤ c.toNat ∧ c.toNat ≤ 3 := by
  have hcode : c = a.code := by
    unfold readAdmit at h
    split at h
    case isTrue hc => cases h; exact hc
    case isFalse =>
      split at h
      case isTrue hc => cases h; exact hc
      case isFalse =>
        split at h
        case isTrue hc => cases h; exact hc
        case isFalse => cases h
  rw [hcode]
  cases a <;> decide

theorem toNat_of_readAdmission {c : Byte} {a : Admission} (h : readAdmission c = some a) : c.toNat ≤ 2 := by
  have hcode : c = a.code := by
    unfold readAdmission at h
    split at h
    case isTrue hc => cases h; exact hc
    case isFalse =>
      split at h
      case isTrue hc => cases h; exact hc
      case isFalse =>
        split at h
        case isTrue hc => cases h; exact hc
        case isFalse => cases h
  rw [hcode]
  cases a <;> decide

/-- The format operand (R152, section 11.3). -/
theorem readFormat_eq (c : Byte) : readFormat c =
    if c.toNat % 4 = 3 ∨ 15 < c.toNat then none
    else some { parity := if c.toNat % 4 = 0 then .none else if c.toNat % 4 = 1 then .even else .odd
                twoStops := decide (c.toNat / 4 % 2 = 1), noiseStrict := decide (c.toNat / 8 % 2 = 1) } := by
  revert c
  decide

theorem toNat_of_readRange {lo hi v : Nat} {c : Byte} (h : readRange lo hi c = some v) : inRange lo hi c.toNat := by
  unfold readRange at h
  split at h
  case isTrue hc => exact hc
  case isFalse => cases h

theorem toNat_of_readFormat {c : Byte} {f : Format} (h : readFormat c = some f) : c.toNat % 4 ≠ 3 ∧ c.toNat ≤ 15 := by
  rw [readFormat_eq] at h
  split at h
  case isTrue => cases h
  case isFalse hc => omega

theorem toNat_of_readDivisor {hi lo : Byte} {n : BitVec 12} (h : readDivisor hi lo = some n) : hi.toNat ≤ 15 := by
  unfold readDivisor at h
  split at h
  case isTrue hc => exact hc
  case isFalse => cases h

theorem toNat_of_readLineSettings {ops : List Byte} {ls : LineSettings} (h : readLineSettings ops = some ls) :
    (charAt ops 1).toNat ≤ 15 ∧ ((charAt ops 3).toNat % 4 ≠ 3 ∧ (charAt ops 3).toNat ≤ 15) ∧ inRange 1 15 (charAt ops 4).toNat := by
  unfold readLineSettings at h
  split at h
  case h_1 hn hf hg => exact ⟨toNat_of_readDivisor hn, toNat_of_readFormat hf, toNat_of_readRange hg⟩
  case h_2 => cases h

theorem toNat_of_readEntryOperands {ops : List Byte} {e : RouteEntry} (h : readEntryOperands ops = some e) :
    (charAt ops 2).toNat ≤ 6 ∧ (1 ≤ (charAt ops 3).toNat ∧ (charAt ops 3).toNat ≤ 4) ∧ (charAt ops 5).toNat ≤ 3 ∧
      (charAt ops 6).toNat ≠ 0 ∧ (1 ≤ (charAt ops 7).toNat ∧ (charAt ops 7).toNat ≤ 3) := by
  unfold readEntryOperands at h
  split at h
  case h_1 hk hb hr hl ha =>
    exact ⟨toNat_of_readSizeCode hk, toNat_of_readBranch hb, toNat_of_readRetries hr, toNat_of_readReplyLimit hl,
      toNat_of_readAdmit ha⟩
  case h_2 => cases h

theorem StationMap.table?_of_lt {c : Byte} (h : 1 < c.toNat) (m : StationMap) : m.table? c = none := by
  unfold StationMap.table?
  rw [if_neg, if_neg]
  · rintro rfl; exact absurd h (by decide)
  · rintro rfl; exact absurd h (by decide)

/-! ## A refused operand gives BAD_OPERAND (R213) -/

/-- Each command whose operands R213 refuses comes to BAD_OPERAND: where every operand is read, each is in its range. -/
theorem Command.own_of_refuses {c : Command} {ops : List Byte} (h : c.refuses ops = true) (s : State) :
    c.own s ops = Completion.bad := by
  cases c with
  | identify | readStatus | loadWorking | commit | restart | echo | unknown => cases h
  | readCounters =>
    have hrange := of_decide_eq_true h
    simp only [Command.own, readCountersCompletion]
    split
    case h_1 hport hflag =>
      have := toNat_of_readPort hport
      have := toNat_of_readFlag hflag
      omega
    case h_2 => rfl
  | readEntry =>
    have hrange := of_decide_eq_true h
    simp only [Command.own, readEntryCompletion]
    by_cases hselector : 1 < (charAt ops 0).toNat
    · rw [StationMap.table?_of_lt hselector]
    · split
      case h_1 => rfl
      case h_2 => exact if_neg (by omega)
  | writeEntry =>
    have hrange := of_decide_eq_true h
    simp only [Command.own, writeEntryCompletion]
    split
    case h_1 hindex hentry =>
      have := toNat_of_readIndex hindex
      obtain ⟨hk, hb, hr, hl, ha⟩ := toNat_of_readEntryOperands hentry
      omega
    case h_2 => rfl
  | clearEntry =>
    have hrange := of_decide_eq_true h
    simp only [Command.own, clearEntryCompletion]
    split
    case h_1 hindex =>
      have := toNat_of_readIndex hindex
      omega
    case h_2 => rfl
  | setAdmission =>
    have hrange := of_decide_eq_true h
    simp only [Command.own, setAdmissionCompletion]
    split
    case h_1 hbranch hstate =>
      have := toNat_of_readBranch hbranch
      have := toNat_of_readAdmission hstate
      omega
    case h_2 => rfl
  | setLine =>
    have hrange := of_decide_eq_true h
    simp only [Command.own, setLineCompletion]
    split
    case h_1 hbranch hsettings hturn =>
      have := toNat_of_readBranch hbranch
      obtain ⟨hdivisor, hformat, hgap, hgap'⟩ := toNat_of_readLineSettings hsettings
      obtain ⟨hlow, hhigh⟩ := toNat_of_readRange hturn
      omega
    case h_2 => rfl
  | trunkSetLine =>
    have hrange := of_decide_eq_true h
    simp only [Command.own, trunkSetLineCompletion]
    split
    case h_1 hsettings =>
      obtain ⟨hdivisor, hformat, hgap, hgap'⟩ := toNat_of_readLineSettings hsettings
      omega
    case h_2 => rfl
  | setPolicy =>
    have hrange := of_decide_eq_true h
    simp only [Command.own, setPolicyCompletion]
    split
    case h_1 hbranch hlimit hlevel hoption =>
      have := toNat_of_readBranch hbranch
      obtain ⟨hlow, hhigh⟩ := toNat_of_readRange hlimit
      obtain ⟨hlow', hhigh'⟩ := toNat_of_readRange hlevel
      have := toNat_of_readFlag hoption
      omega
    case h_2 => rfl
  | resetBranch =>
    have hrange := of_decide_eq_true h
    simp only [Command.own, resetBranchCompletion]
    split
    case h_1 hbranch =>
      have := toNat_of_readBranch hbranch
      omega
    case h_2 => rfl
  | setAddress =>
    have hrange := of_decide_eq_true h
    refine if_pos ?_
    rcases hrange with hzero | hall
    · exact .inl (BitVec.eq_of_toNat_eq hzero)
    · exact .inr (.inl (BitVec.eq_of_toNat_eq hall))

/-! ## Commands that conclude (R171 to R176) -/

section
variable {s u : State} {c : Command} {n : BufferId} {rest : List BufferId} {ops : List Byte} {v : Verdict}

/-- A command whose outcome carries nothing, and leaves its own buffer, the agent queue and the void flag alone, concludes. -/
theorem exec_concluded (h : s.Executing c n rest) (heffect : (s.outcome c n).effect s = u)
    (hcarry : (s.outcome c n).carry = .nothing) (hbuffer : u.buffer n = s.buffer n) (hqueue : u.agent.queue = s.agent.queue)
    (hvoid : u.agent.responseVoid = s.agent.responseVoid) :
    ∃ t, exec c.event s = .next t ∧ Concluded s u t n rest (s.outcome c n).verdict := by
  obtain ⟨-, hq, -⟩ := id h
  exact ⟨_, exec_command_of_executing h, State.complete_concluded heffect hcarry hbuffer (hqueue.trans hq) hvoid⟩

/-- The same for a command whose count is right, by its own outcome. -/
theorem exec_concluded_of_own {x : Completion} (h : s.Executing c n rest) (hops : commandOperands (s.chars n) = ops)
    (hc : c ≠ .unknown) (htakes : c.takes ops.length = true) (hown : c.own s ops = x) (heffect : x.effect s = u)
    (hcarry : x.carry = .nothing) (hbuffer : u.buffer n = s.buffer n) (hqueue : u.agent.queue = s.agent.queue)
    (hvoid : u.agent.responseVoid = s.agent.responseVoid) (hverdict : x.verdict = v) :
    ∃ t, exec c.event s = .next t ∧ Concluded s u t n rest v := by
  have ho : s.outcome c n = x := (State.outcome_of_takes hops hc htakes).trans hown
  have hconcluded := exec_concluded (u := u) h (by rw [ho]; exact heffect) (by rw [ho]; exact hcarry) hbuffer hqueue hvoid
  rwa [ho, hverdict] at hconcluded

/-- A command that only reports, or fails its tests, concludes with no effect. -/
theorem exec_concluded_of_only (h : s.Executing c n rest) (ho : s.outcome c n = Completion.only v) :
    ∃ t, exec c.event s = .next t ∧ Concluded s s t n rest v := by
  have hconcluded := exec_concluded (u := s) h (by rw [ho]; rfl) (by rw [ho]; rfl) rfl rfl rfl
  rwa [ho] at hconcluded

theorem exec_concluded_of_own_only (h : s.Executing c n rest) (hops : commandOperands (s.chars n) = ops)
    (hc : c ≠ .unknown) (htakes : c.takes ops.length = true) (hown : c.own s ops = Completion.only v) :
    ∃ t, exec c.event s = .next t ∧ Concluded s s t n rest v :=
  exec_concluded_of_only h ((State.outcome_of_takes hops hc htakes).trans hown)

theorem State.outcome_unknown (s : State) (n : BufferId) :
    s.outcome .unknown n = Completion.only { result := .unknown, data := [] } := rfl

theorem State.outcome_of_wrong_count (hc : c ≠ .unknown) (h : c.takes (commandOperands (s.chars n)).length = false) :
    s.outcome c n = Completion.only { result := .wrongLength, data := [] } := by
  have hcount : ¬ c.takes (s.operandsOf n).length = true := Bool.eq_false_iff.mp h
  cases c with
  | unknown => exact absurd rfl hc
  | _ => exact if_neg hcount

end

/-- Settles O41: how a command is read, and one lemma for each of the three tests that it may fail. -/
theorem failedTestsHaveNoEffect : Obligations.FailedTestsHaveNoEffect := by
  unfold Obligations.FailedTestsHaveNoEffect
  refine ⟨fun chars => ⟨commandCode_of_no_payload, fun hn => ⟨commandCode_of_payload hn, commandOperands_of_payload⟩⟩,
    fun ops => ⟨rfl, rfl, fun code h => commandOf_of_unnamed h ops⟩, fun s n => rfl, rfl, fun k => ?counts,
    fun s c n rest h => ⟨fun hc => ?unknown, fun hc hcount => ?wrongLength, fun hc hcount hrefuses => ?bad⟩⟩
  case counts => simp [Command.takes]
  case unknown =>
    subst hc
    exact exec_concluded_of_only h (s.outcome_unknown n)
  case wrongLength => exact exec_concluded_of_only h (State.outcome_of_wrong_count hc hcount)
  case bad => exact exec_concluded_of_own_only h rfl hc hcount (Command.own_of_refuses hrefuses s)

theorem controlOf_reply (q : Sequence) : controlOf .reply q = 0x40 + q.setWidth 8 := by
  revert q
  decide

/-- Settles O42: the layout of a response, and two commands that report alone. -/
theorem identifyAndEchoReport : Obligations.IdentifyAndEchoReport := by
  unfold Obligations.IdentifyAndEchoReport
  refine ⟨fun address code q v => ?_, rfl, fun s n rest => ⟨fun h hops => ?_, fun h hcount => ?_⟩⟩
  · rw [responseFrame, controlOf_reply]
    rfl
  · exact exec_concluded_of_own_only h hops (by decide) rfl rfl
  · exact exec_concluded_of_own_only h rfl (by decide) (decide_eq_true hcount) rfl

end Sys2Proof.Machine
end

section
/-! PROOFS. READ_STATUS, READ_COUNTERS and READ_ENTRY report the part (R178, R179, R29): O43, O44, O45. -/

namespace Sys2Proof.Machine

/-! ## READ_STATUS (R178, R206, R208, R209) -/

/-- Five flags in one character, each in its place. -/
theorem byteOf_flags (f₀ f₁ f₂ f₃ f₄ : Bool) :
    let c := byteOf (f₀.toNat + 2 * f₁.toNat + 4 * f₂.toNat + 8 * f₃.toNat + 16 * f₄.toNat)
    c.getLsbD 0 = f₀ ∧ c.getLsbD 1 = f₁ ∧ c.getLsbD 2 = f₂ ∧ c.getLsbD 3 = f₃ ∧ c.getLsbD 4 = f₄ ∧ c &&& 0xE0 = 0 := by
  revert f₀ f₁ f₂ f₃ f₄
  decide

theorem State.flagBits_getLsbD (s : State) :
    (∀ b : Branch, s.flagBits.getLsbD b.number = (s.branch b).counters.flag) ∧ s.flagBits.getLsbD 0 = s.trunk.counters.flag ∧
      s.flagBits &&& 0xE0 = 0 := by
  obtain ⟨h0, h1, h2, h3, h4, hrest⟩ := byteOf_flags s.trunk.counters.flag (s.branch .b1).counters.flag
    (s.branch .b2).counters.flag (s.branch .b3).counters.flag (s.branch .b4).counters.flag
  refine ⟨fun b => ?_, h0, hrest⟩
  cases b
  · exact h1
  · exact h2
  · exact h3
  · exact h4

theorem byteOf_pending (f₀ f₁ : Bool) :
    let c := byteOf (f₀.toNat + 2 * f₁.toNat)
    c.getLsbD 0 = f₀ ∧ c.getLsbD 1 = f₁ ∧ c &&& 0xFC = 0 := by
  revert f₀ f₁
  decide

theorem State.status_branch (s : State) (b : Branch) :
    (s.status.drop (9 + 5 * (b.number - 1))).take 5 = (s.branch b).statusBlock := by
  cases b <;> rfl

theorem slotCode_of_phase (x : Slot) : slotAttempts (some x) = x.attempts ∧ (x.phase = .ready → slotCode (some x) = 1) ∧
    (x.phase = .sending → slotCode (some x) = 2) ∧ (∀ left, x.phase = .waiting left → slotCode (some x) = 3) ∧
    (∀ n f, x.phase = .receiving n f → slotCode (some x) = 4) := by
  refine ⟨rfl, fun h => ?_, fun h => ?_, fun left h => ?_, fun n f h => ?_⟩ <;> simp only [slotCode, h]

/-- Settles O43: the snapshot character by character, and the flags that the command clears. -/
theorem readStatusReportsAndClears : Obligations.ReadStatusReportsAndClears := by
  unfold Obligations.ReadStatusReportsAndClears
  refine ⟨⟨rfl, rfl, rfl, rfl, fun _ => rfl, fun _ => rfl, rfl, fun _ => rfl, fun _ => rfl, fun _ => rfl, rfl, rfl,
    slotCode_of_phase⟩, fun s n rest h hops => ?_⟩
  obtain ⟨t, hexec, hconcluded⟩ := exec_concluded_of_own (u := s.clearFlags) h hops (by decide) rfl rfl rfl rfl rfl rfl rfl rfl
  obtain ⟨hbranch, htrunk, hflags⟩ := s.flagBits_getLsbD
  obtain ⟨hrestart, hsetting, hpending⟩ := byteOf_pending s.agent.restartPending s.agent.pendingSetting.isSome
  exact ⟨t, s.status, hexec, rfl, hbranch, htrunk, hflags, rfl, rfl, rfl, rfl, hiByte_loByte _, rfl, hrestart, hsetting,
    hpending, s.status_branch, hconcluded⟩

/-! ## READ_COUNTERS (R179, R205) -/

theorem Vector.toList_eq_map_get {α : Type} {n : Nat} (v : Vector α n) : v.toList = (List.finRange n).map v.get := by
  refine List.ext_getElem (by simp) fun i _ _ => ?_
  simp [Vector.get_eq_getElem]

/-- The counters of the trunk in the order of R199. -/
theorem TrunkPort.counts_toList (t : TrunkPort) : t.counters.counts.toList =
    [TrunkCounter.framesIn, .framesOut, .damaged, .noisyChars, .orphanChars, .breaks, .unrouted, .refused, .discarded,
      .noBuffer, .refusalLost, .wrongKind, .mgmtCommands].map t.counter := by
  rw [Vector.toList_eq_map_get]
  rfl

/-- The counters of a branch in the order of R199. -/
theorem BranchPort.counts_toList (p : BranchPort) : p.counters.counts.toList =
    [BranchCounter.framesIn, .framesOut, .damaged, .noisyChars, .orphanChars, .breaks, .replies, .noReply, .badReply,
      .retries, .faults, .stray, .late, .stale, .jams, .queueDrops].map p.counter := by
  rw [Vector.toList_eq_map_get]
  rfl

theorem readPort_number (p : Port) : readPort (byteOf (portNumber p)) = some p := by
  cases p with
  | trunk => rfl
  | branch b => cases b <;> rfl

theorem readCountersCompletion_eq (s : State) (p : Port) {clear : Byte} (h : clear.toNat ≤ 1) :
    readCountersCompletion s [byteOf (portNumber p), clear] = Completion.done (byteOf (portNumber p) :: s.counterReport p)
      (if decide (clear = 1) then State.zeroCounters p else id) := by
  have hport : readPort (charAt [byteOf (portNumber p), clear] 0) = some p := readPort_number p
  have hflag : readFlag (charAt [byteOf (portNumber p), clear] 1) = some (decide (clear = 1)) := readFlag_of_le_one h
  rw [readCountersCompletion, hport, hflag]

/-- What READ_COUNTERS leaves of the part. -/
def State.cleared (s : State) (p : Port) (clear : Byte) : State := if clear = 1 then s.zeroCounters p else s

section
variable (s : State) (p : Port) (clear : Byte)

theorem State.cleared_eq : (if decide (clear = 1) then State.zeroCounters p else id) s = s.cleared p clear := by
  rw [State.cleared]
  by_cases h : clear = 1
  · rw [if_pos h, if_pos (decide_eq_true h)]
  · rw [if_neg h, if_neg (by rwa [decide_eq_true_iff])]
    rfl

theorem State.zeroCounters_same : (s.zeroCounters p).pool = s.pool ∧ (s.zeroCounters p).agent = s.agent := by
  cases p <;> exact ⟨rfl, rfl⟩

theorem State.cleared_same : (s.cleared p clear).pool = s.pool ∧ (s.cleared p clear).agent = s.agent := by
  unfold State.cleared
  split
  · exact s.zeroCounters_same p
  · exact ⟨rfl, rfl⟩

end

/-- Settles O44: the counters of either kind of port in their order, and the counts that clear 1 sets to 0. -/
theorem readCountersReportsAndClears : Obligations.ReadCountersReportsAndClears := by
  unfold Obligations.ReadCountersReportsAndClears
  refine ⟨rfl, rfl, fun _ => rfl, fun s n rest p clear h hops hclear => ?_⟩
  obtain ⟨hpool, hagent⟩ := s.cleared_same p clear
  have hconcluded := exec_concluded_of_own h hops (by decide) rfl (readCountersCompletion_eq s p hclear)
    (s.cleared_eq p clear) rfl (by rw [State.buffer, hpool, State.buffer]) (by rw [hagent]) (by rw [hagent]) rfl
  cases p with
  | trunk =>
    have hreport : s.counterReport .trunk = s.trunk.counters.counts.toList.flatMap fun w => [hiByte w, loByte w] := rfl
    rw [hreport, TrunkPort.counts_toList] at hconcluded
    exact hconcluded
  | branch b =>
    have hreport : s.counterReport (.branch b) = (s.branch b).counters.counts.toList.flatMap fun w => [hiByte w, loByte w] := rfl
    rw [hreport, BranchPort.counts_toList] at hconcluded
    exact hconcluded

/-! ## READ_ENTRY (R29) -/

/-- Of blocks of one length, one after another, the block of each place. -/
theorem take_drop_flatMap {α β : Type} {f : α → List β} {k : Nat} (hf : ∀ x, (f x).length = k) (l : List α) :
    ∀ j, ∀ h : j < l.length, ((l.flatMap f).drop (k * j)).take k = f l[j] := by
  induction l with
  | nil => exact fun j h => absurd h (Nat.not_lt_zero j)
  | cons x l ih =>
    intro j h
    rw [List.flatMap_cons]
    cases j with
    | zero => exact List.take_left' (hf x)
    | succ j =>
      have hdrop : (f x ++ l.flatMap f).drop (k * (j + 1)) = (l.flatMap f).drop (k * j) := by
        have hlen := hf x
        rw [Nat.mul_succ, Nat.add_comm, ← List.drop_drop, List.drop_left' hlen]
      rw [hdrop, ih j (Nat.lt_of_succ_lt_succ h)]
      rfl

theorem RouteEntry.encode_length (e : RouteEntry) : e.encode.length = 8 := rfl

/-- The entries of a table from an index upward. -/
def Table.slice (t : Table) (first count : Nat) : List RouteEntry := (t.toList.drop first).take count

theorem Table.slice_length {t : Table} {first count : Nat} (h : first + count ≤ 16) : (t.slice first count).length = count := by
  unfold Table.slice
  rw [List.length_take, List.length_drop, Vector.length_toList]
  omega

theorem Table.slice_getElem {t : Table} {first count : Nat} {j : Nat} (hj : j < (t.slice first count).length) {i : Fin 16}
    (hi : i.val = first + j) : (t.slice first count)[j] = t.get i := by
  simp [Table.slice, Vector.get_eq_getElem, hi]

theorem StationMap.table?_of_le {c : Byte} (h : c.toNat ≤ 1) (m : StationMap) :
    m.table? c = some (if c = 0 then m.active else m.working) := by
  obtain rfl | rfl : c = 0 ∨ c = 1 := by bv_omega
  · rfl
  · rfl

theorem readEntryCompletion_eq {s : State} {selector first count : Byte} (hselector : selector.toNat ≤ 1)
    (hlow : 1 ≤ count.toNat) (hhigh : count.toNat ≤ 4) (hlast : first.toNat + count.toNat ≤ 16) :
    readEntryCompletion s [selector, first, count] = Completion.only (.done ([selector, first, count] ++
      ((if selector = 0 then s.map.active else s.map.working).slice first.toNat count.toNat).flatMap RouteEntry.encode)) := by
  have htable : s.map.table? (charAt [selector, first, count] 0) = some (if selector = 0 then s.map.active else s.map.working) :=
    s.map.table?_of_le hselector
  rw [readEntryCompletion, htable]
  exact if_pos ⟨hlow, hhigh, hlast⟩

/-- Settles O45: three operands back, then a block of eight characters for each entry. -/
theorem readEntryReportsTable : Obligations.ReadEntryReportsTable := by
  unfold Obligations.ReadEntryReportsTable
  intro s n rest selector first count h hops hselector hlow hhigh hlast table
  obtain ⟨t, hexec, hconcluded⟩ := exec_concluded_of_own_only h hops (by decide) rfl
    (readEntryCompletion_eq (s := s) hselector hlow hhigh hlast)
  have hlength : (table.slice first.toNat count.toNat).length = count.toNat := Table.slice_length hlast
  refine ⟨t, _, hexec, ?_, rfl, fun j hj i hi => ?_, hconcluded⟩
  · rw [List.length_append, List.length_flatMap, List.map_congr_left fun e _ => e.encode_length, List.map_const',
      List.sum_replicate, hlength]
    simp [Nat.mul_comm]
  · rw [← List.drop_drop]
    refine (take_drop_flatMap RouteEntry.encode_length _ j (by rw [hlength]; exact hj)).trans ?_
    rw [Table.slice_getElem _ hi]
    rfl

end Sys2Proof.Machine
end

section
/-! PROOFS. SET_ADMISSION, SET_LINE, RESET_BRANCH and SET_ADDRESS (R110 to R114, R126, R130, R190), and the end of a completion
(R171 to R175): O49, O50, O52, O54. -/

namespace Sys2Proof.Machine

/-! ## The end of a completion (R171, R174, R175, R196) -/

section
variable {s : State} {n : BufferId} {x : Completion}

theorem State.answers_iff (s : State) (n : BufferId) : s.answers n = true ↔ s.Answers n := by
  simp [State.answers, State.Answers]

theorem State.finish_of_answers (h : s.Answers n) (x : Completion) :
    s.finish n x = (s.respond n x.verdict x.carry).leavePending x.carry := if_pos ((s.answers_iff n).mpr h)

theorem State.finish_of_not_answers (h : ¬ s.Answers n) (x : Completion) : s.finish n x = (s.free n).takesEffectNow x.carry :=
  if_neg (mt (s.answers_iff n).mp h)

theorem State.nextCommand_eq (s : State) : s.nextCommand = s.setAgent { s.agent with
    queue := s.agent.queue.drop 1, responseVoid := false, left := s.limitOfNext (s.agent.queue.drop 1) } := by
  unfold State.nextCommand State.beginCommand
  rw [State.setAgent_agent]
  dsimp only
  cases s.agent.queue.drop 1 <;> rfl

end

/-! ## A branch that changes at a command -/

section
variable {s : State} {c : Command} {n : BufferId} {rest : List BufferId} {ops : List Byte}

/-- A command whose effect changes one branch concludes with DONE. -/
theorem exec_concluded_of_branch {data : List Byte} {f : State → State} {b : Branch} {p : BranchPort} (h : s.Executing c n rest)
    (hops : commandOperands (s.chars n) = ops) (hc : c ≠ .unknown) (htakes : c.takes ops.length = true)
    (hown : c.own s ops = Completion.done data f) (heffect : f s = s.setBranch b p) :
    ∃ t, exec c.event s = .next t ∧ Concluded s (s.setBranch b p) t n rest { result := .done, data := data } :=
  exec_concluded_of_own h hops hc htakes hown heffect rfl (State.setBranch_buffer s b p n) rfl rfl rfl

/-- A command that has its own outcome, and carries nothing, comes to the end of its completion with its effect. -/
theorem exec_of_own {x : Completion} {u : State} (h : s.Executing c n rest) (hops : commandOperands (s.chars n) = ops)
    (hc : c ≠ .unknown) (htakes : c.takes ops.length = true) (hown : c.own s ops = x) (heffect : x.effect s = u) :
    exec c.event s = .next (((u.countTrunk .mgmtCommands).finish n x).nextCommand).updateWaiting := by
  rw [exec_command_of_executing h, State.outcome_of_takes hops hc htakes, hown, State.complete, heffect]

theorem State.finish_done (s : State) (n : BufferId) (data : List Byte) (f : State → State) : s.finish n (Completion.done data f) =
    s.finish n { verdict := { result := .done, data := data }, effect := id, carry := .nothing } := rfl

/-- The same for a command that is DONE, without its effect in what is finished. -/
theorem exec_of_done {f : State → State} {u : State} (h : s.Executing c n rest) (hops : commandOperands (s.chars n) = ops)
    (hc : c ≠ .unknown) (htakes : c.takes ops.length = true) (hown : c.own s ops = Completion.done [] f) (heffect : f s = u) :
    exec c.event s = .next (((u.countTrunk .mgmtCommands).finish n
      { verdict := { result := .done, data := [] }, effect := id, carry := .nothing }).nextCommand).updateWaiting := by
  rw [exec_of_own h hops hc htakes hown heffect, State.finish_done]

end

theorem readAdmission_code (a : Admission) : readAdmission a.code = some a := by cases a <;> rfl

theorem setAdmissionCompletion_eq (s : State) (b : Branch) (a : Admission) :
    setAdmissionCompletion s [byteOf b.number, a.code] = Completion.done [] (State.setAdmission b a) := by
  have hbranch : readBranch (charAt [byteOf b.number, a.code] 0) = some b := readBranch_number b
  have hstate : readAdmission (charAt [byteOf b.number, a.code] 1) = some a := readAdmission_code a
  rw [setAdmissionCompletion, hbranch, hstate]

section
variable {s : State} {b : Branch} {a : Admission}

theorem State.setAdmission_of_same (h : (s.branch b).admission = a) : s.setAdmission b a = s := if_pos h

theorem State.setAdmission_of_closing (h : (s.branch b).admission ≠ a) (ha : a = .closed) :
    s.setAdmission b a = s.closeBranch b := (if_neg h).trans (if_pos ha)

theorem State.setAdmission_of_opening (h : (s.branch b).admission ≠ a) (hclosed : (s.branch b).admission = .closed) :
    s.setAdmission b a = s.setBranch b { s.branch b with admission := a, line := .settling 0, receiver := Receiver.fresh } := by
  have ha : a ≠ .closed := fun ha => h (hclosed.trans ha.symm)
  exact ((if_neg h).trans (if_neg ha)).trans (if_pos hclosed)

theorem State.setAdmission_of_open (h : (s.branch b).admission ≠ a) (ha : a ≠ .closed) (hopen : (s.branch b).admission ≠ .closed) :
    s.setAdmission b a = s.setBranch b { s.branch b with admission := a } :=
  ((if_neg h).trans (if_neg ha)).trans (if_neg hopen)

end

/-- Settles O49: the end of a completion in one equation for each case, and the four cases of SET_ADMISSION. -/
theorem setAdmissionChangesBranch : Obligations.SetAdmissionChangesBranch := by
  unfold Obligations.SetAdmissionChangesBranch
  refine ⟨fun s n x hcarry => ⟨fun h => ?_, fun h => ?_⟩, State.nextCommand_eq, fun _ _ => rfl, fun s n rest b a h hops => ?_⟩
  · rw [State.finish_of_answers h, hcarry]
    rfl
  · rw [State.finish_of_not_answers h, hcarry]
    rfl
  · have hown := setAdmissionCompletion_eq s b a
    refine ⟨fun hsame => ?_, fun hne ha hopen => ?_, fun hne hclosed => ?_, fun hne ha => ?_⟩
    · exact exec_concluded_of_own h hops (by decide) rfl hown (State.setAdmission_of_same hsame) rfl rfl rfl rfl rfl
    · exact exec_concluded_of_branch h hops (by decide) rfl hown (State.setAdmission_of_open hne ha hopen)
    · exact exec_concluded_of_branch h hops (by decide) rfl hown (State.setAdmission_of_opening hne hclosed)
    · exact ⟨_, exec_of_done h hops (by decide) rfl hown (State.setAdmission_of_closing hne ha), _, rfl, rfl⟩

/-! ## SET_LINE for a branch (R130, R185) -/

theorem readDivisor_of_le {hi : Byte} (h : hi.toNat ≤ 15) (lo : Byte) :
    readDivisor hi lo = some (BitVec.ofNat 12 (256 * hi.toNat + lo.toNat)) := if_pos h

/-- The operands of SET_LINE, each in its range, give the settings that they spell. -/
theorem readLineSettings_eq {port hi lo format gap turn : Byte} {f : Format} (hhi : hi.toNat ≤ 15)
    (hf : readFormat format = some f) (hgap : inRange 1 15 gap.toNat) : readLineSettings [port, hi, lo, format, gap, turn] =
      some { divisor := BitVec.ofNat 12 (256 * hi.toNat + lo.toNat), format := f, gapLimit := gap.toNat } := by
  have hn : readDivisor (charAt [port, hi, lo, format, gap, turn] 1) (charAt [port, hi, lo, format, gap, turn] 2) =
    some (BitVec.ofNat 12 (256 * hi.toNat + lo.toNat)) := readDivisor_of_le hhi lo
  have hformat : readFormat (charAt [port, hi, lo, format, gap, turn] 3) = some f := hf
  have hg : readRange 1 15 (charAt [port, hi, lo, format, gap, turn] 4) = some gap.toNat := readRange_of_inRange hgap
  rw [readLineSettings, hn, hformat, hg]

theorem setLineCompletion_eq {s : State} {b : Branch} {hi lo format gap turn : Byte} {ls : LineSettings}
    (hls : readLineSettings [byteOf b.number, hi, lo, format, gap, turn] = some ls) (hturn : inRange 1 15 turn.toNat) :
    setLineCompletion s [byteOf b.number, hi, lo, format, gap, turn] =
      if (s.branch b).admission = .closed then
        Completion.done [] (State.onBranch b fun p => { p with settings := ls, turnaround := turn.toNat })
      else Completion.notNow := by
  have hb : readBranch (charAt [byteOf b.number, hi, lo, format, gap, turn] 0) = some b := readBranch_number b
  have ht : readRange 1 15 (charAt [byteOf b.number, hi, lo, format, gap, turn] 5) = some turn.toNat := readRange_of_inRange hturn
  rw [setLineCompletion, hb, hls, ht]

/-- The format that a format operand spells. -/
theorem readFormat_spec (c : Byte) (hparity : c.toNat % 4 ≠ 3) (hlow : c.toNat ≤ 15) : ∃ f, readFormat c = some f ∧
    (f.parity = .none ↔ c.toNat % 4 = 0) ∧ (f.parity = .even ↔ c.toNat % 4 = 1) ∧ (f.parity = .odd ↔ c.toNat % 4 = 2) ∧
    (f.twoStops = true ↔ c.toNat / 4 % 2 = 1) ∧ (f.noiseStrict = true ↔ c.toNat / 8 % 2 = 1) ∧
    f.bits = 11 + (if c.toNat % 4 = 0 then 0 else 1) + c.toNat / 4 % 2 := by
  refine ⟨_, (readFormat_eq c).trans (if_neg (by omega)), ?_⟩
  obtain hp | hp | hp : c.toNat % 4 = 0 ∨ c.toNat % 4 = 1 ∨ c.toNat % 4 = 2 := by omega
  all_goals
    obtain hs | hs : c.toNat / 4 % 2 = 0 ∨ c.toNat / 4 % 2 = 1 := by omega
    all_goals simp [Format.bits, hp, hs]

/-- Settles O50: the settings of a CLOSED branch take the given values, and the format operand is read place by place. -/
theorem setLineNeedsClosedBranch : Obligations.SetLineNeedsClosedBranch := by
  unfold Obligations.SetLineNeedsClosedBranch
  refine ⟨fun s n rest b hi lo format gap turn f h hops hhi hf hgap hturn => ?_,
    fun c => ⟨fun hbad => (readFormat_eq c).trans (if_pos hbad), readFormat_spec c⟩⟩
  have hown := setLineCompletion_eq (s := s) (readLineSettings_eq (port := byteOf b.number) (lo := lo) (turn := turn) hhi hf hgap) hturn
  refine ⟨fun hclosed => ?_, fun hopen => ?_⟩
  · rw [if_pos hclosed] at hown
    exact exec_concluded_of_branch h hops (by decide) rfl hown rfl
  · rw [if_neg hopen] at hown
    exact exec_concluded_of_own_only h hops (by decide) rfl hown

/-! ## RESET_BRANCH (R120, R126) -/

theorem resetBranchCompletion_eq (s : State) (b : Branch) :
    resetBranchCompletion s [byteOf b.number] = Completion.done [] (State.resetUnlessClosed b) := by
  have hbranch : readBranch (charAt [byteOf b.number] 0) = some b := readBranch_number b
  rw [resetBranchCompletion, hbranch]

/-- What an ordered emission makes of each line (R120). -/
theorem BranchPort.orderEmission_spec (p : BranchPort) :
    (p.line = .off → p.orderEmission = p) ∧
    (∀ a, p.line = .driving a → p.orderEmission =
      { p with line := .driving .emission, sending := p.sending.map Transmission.stop }) ∧
    (p.line ≠ .off → (∀ a, p.line ≠ .driving a) → p.orderEmission = p.emit) := by
  cases hl : p.line <;> simp [BranchPort.orderEmission, hl]

/-- Settles O52: nothing on a CLOSED branch, the ordered emission and the flush on any other. -/
theorem resetBranchEmitsAndFlushes : Obligations.ResetBranchEmitsAndFlushes := by
  unfold Obligations.ResetBranchEmitsAndFlushes
  refine ⟨fun s n rest b h hops => ⟨fun hclosed => ?_, fun hopen => ?_⟩, BranchPort.orderEmission_spec⟩
  · exact exec_concluded_of_own h hops (by decide) rfl (resetBranchCompletion_eq s b) (if_pos hclosed) rfl rfl rfl rfl rfl
  · exact ⟨_, exec_of_done h hops (by decide) rfl (resetBranchCompletion_eq s b) (if_neg hopen), rfl⟩

/-! ## SET_ADDRESS (R190) -/

theorem StationMap.routes_iff (m : StationMap) (a : Byte) : m.routes a = true ↔ ∃ i : Fin 16, (m.active.get i).valid = true ∧
    (m.active.get i).trunkBase.toNat ≤ a.toNat ∧
    a.toNat < (m.active.get i).trunkBase.toNat + 2 ^ (m.active.get i).sizeCode.val := by
  have hholds : ∀ i, m.HoldsAt a i ↔ (m.active.get i).valid = true ∧ (m.active.get i).trunkBase.toNat ≤ a.toNat ∧
      a.toNat < (m.active.get i).trunkBase.toNat + 2 ^ (m.active.get i).sizeCode.val :=
    fun i => and_congr_right fun _ => RouteEntry.holdsTrunk_iff _ a
  simp only [← hholds]
  rw [StationMap.routes, Option.isSome_iff_ne_none, ne_eq, StationMap.lookup_eq_none_iff]
  push Not
  rfl

/-- Settles O54: the addresses that are refused, and the coupler address that takes the new value. -/
theorem setAddressChangesCoupler : Obligations.SetAddressChangesCoupler := by
  unfold Obligations.SetAddressChangesCoupler
  intro s n rest a h hops inWindow
  have hroutes : s.map.routes a = true ↔ inWindow := s.map.routes_iff a
  refine ⟨fun hrefused => ?_, fun hzero hall hout => ?_⟩
  · have hbad : setAddressCompletion s [a] = Completion.bad := if_pos (by rwa [← hroutes] at hrefused)
    exact exec_concluded_of_own_only h hops (by decide) rfl hbad
  · have hdone : setAddressCompletion s [a] = Completion.done [s.agent.coupler] (State.setCoupler a) := by
      refine if_neg ?_
      rintro (h0 | hF | hin)
      · exact hzero h0
      · exact hall hF
      · exact hout (hroutes.mp hin)
    exact exec_concluded_of_own h hops (by decide) rfl hdone rfl rfl rfl rfl rfl rfl

end Sys2Proof.Machine
end

section
/-! PROOFS. SET_LINE for port 0 and RESTART, whose responses carry what is to take effect (R186, R187, R192): O53, O55. -/

namespace Sys2Proof.Machine

/-! ## A response that carries something (R174, R186, R192) -/

/-- The response of a command in its own buffer (R174). -/
def State.response (s : State) (n : BufferId) (v : Verdict) : Buffer :=
  { chars := responseFrame (charAt (s.chars n) 0) (s.desc n).seq (commandCode (s.chars n)) v
    desc := { s.desc n with length := 7 + v.data.length, kind := .reply, refs := 1, route := none } }

/-- A response changes the command's buffer, and what is bound for the master grows by its frame. -/
theorem State.respond_eq (n : BufferId) (v : Verdict) (carry : Carry) (s : State) : ∃ q tx,
    s.respond n v carry =
      (s.setPool { s.pool with buffers := s.pool.buffers.set n (s.response n v) }).setTrunk
        { s.trunk with upstream := q, transmitter := tx } ∧
    tx.items ++ q = s.trunkItems ++ [.frame n carry] := by
  let u := s.setPool { s.pool with buffers := s.pool.buffers.set n (s.response n v) }
  have hrespond : s.respond n v carry = u.appendUpstream (.frame n carry) := rfl
  rw [hrespond]
  exact ⟨_, _, State.appendUpstream_eq (.frame n carry) u, State.appendUpstream_items (.frame n carry) u⟩

section
variable {s u : State} {c : Command} {n : BufferId} {rest : List BufferId} {ops : List Byte}

theorem State.nextCommand_agent (hqueue : s.agent.queue = n :: rest) : s.nextCommand.updateWaiting.agent =
    { s.agent with queue := rest, responseVoid := false, left := s.nextCommand.updateWaiting.limitOfNext rest } := by
  rw [State.limitOfNext_updateWaiting, State.updateWaiting_agent, State.nextCommand_eq, State.limitOfNext_setAgent,
    State.setAgent_agent, hqueue]
  rfl

theorem State.updateWaiting_pool (s : State) : s.updateWaiting.pool = { s.pool with waiting := s.updateWaiting.pool.waiting } := rfl

/-- A part on which a command has been answered, up to the next command: what is Reported of it. -/
theorem Reported.of_answered {y : State} {v : Verdict} {carry : Carry} (hqueue : u.agent.queue = n :: rest)
    (hpool : y.pool = { u.pool with buffers := u.pool.buffers.set n (u.response n v) })
    (htrunk : y.trunk = { u.trunk with
      upstream := y.trunk.upstream, transmitter := y.trunk.transmitter, counters := (u.trunk.count .mgmtCommands).counters })
    (hitems : y.trunkItems = u.trunkItems ++ [.frame n carry])
    (hrest : y.agent = u.agent ∧ y.map = u.map ∧ y.branches = u.branches ∧ y.rstLow = u.rstLow ∧ y.pending = u.pending ∧
      y.choices = u.choices) : Reported u y.nextCommand.updateWaiting n rest v carry := by
  obtain ⟨hagent, hrest⟩ := hrest
  have hnext : y.nextCommand.updateWaiting.agent =
      { u.agent with queue := rest, responseVoid := false, left := y.nextCommand.updateWaiting.limitOfNext rest } :=
    hagent ▸ State.nextCommand_agent (hagent ▸ hqueue)
  have heq := y.nextCommand_eq
  refine ⟨?_, ?_, ?_, ?_, hnext, ?_⟩
  · rw [heq]
    exact congrArg Pool.buffers hpool
  · rw [heq]
    exact hitems
  · rw [heq, State.updateWaiting_pool, State.setAgent_pool, hpool]
  · rw [heq]
    exact htrunk
  · rw [heq]
    exact hrest

/-- An answered command is Reported, with what its response carries left pending. -/
theorem State.reported_of_respond (hqueue : u.agent.queue = n :: rest) (v : Verdict) (carry : Carry) :
    Reported (u.leavePending carry)
      (((u.countTrunk .mgmtCommands).respond n v carry).leavePending carry).nextCommand.updateWaiting n rest v carry := by
  obtain ⟨q, tx, hrespond, hitems⟩ := (u.countTrunk .mgmtCommands).respond_eq n v carry
  rw [hrespond]
  cases carry <;> exact .of_answered hqueue rfl rfl hitems ⟨rfl, rfl, rfl, rfl, rfl, rfl⟩

/-- The end of the completion of a command that is answered. -/
theorem exec_reported {x : Completion} (h : s.Executing c n rest) (hops : commandOperands (s.chars n) = ops)
    (hc : c ≠ .unknown) (htakes : c.takes ops.length = true) (hown : c.own s ops = x) (heffect : x.effect s = u)
    (hanswers : u.Answers n) (hqueue : u.agent.queue = s.agent.queue) :
    ∃ t, exec c.event s = .next t ∧ Reported (u.leavePending x.carry) t n rest x.verdict x.carry := by
  obtain ⟨-, hq, -⟩ := id h
  have hcounted : (u.countTrunk .mgmtCommands).Answers n := hanswers
  refine ⟨_, exec_of_own h hops hc htakes hown heffect, ?_⟩
  rw [State.finish_of_answers hcounted]
  exact State.reported_of_respond (hqueue.trans hq) _ _

/-- The end of the completion of a command that is not answered. -/
theorem exec_not_answered {x : Completion} (h : s.Executing c n rest) (hops : commandOperands (s.chars n) = ops)
    (hc : c ≠ .unknown) (htakes : c.takes ops.length = true) (hown : c.own s ops = x) (heffect : x.effect s = u)
    (hanswers : ¬ u.Answers n) :
    exec c.event s = .next ((((u.countTrunk .mgmtCommands).free n).takesEffectNow x.carry).nextCommand).updateWaiting := by
  have hcounted : ¬ (u.countTrunk .mgmtCommands).Answers n := hanswers
  rw [exec_of_own h hops hc htakes hown heffect, State.finish_of_not_answers hcounted]

end

/-! ## SET_LINE for port 0 (R186, R187) -/

theorem trunkSetLineCompletion_eq {s : State} {ops : List Byte} {ls : LineSettings} (h : readLineSettings ops = some ls) :
    trunkSetLineCompletion s ops = if s.agent.pendingSetting.isSome then Completion.notNow
      else { verdict := .done [], effect := State.pendSetting ls, carry := .setting } := by
  rw [trunkSetLineCompletion, h]

/-- Settles O53: NOT_NOW while a setting is pending, and else the setting pending behind the response, or in effect at once. -/
theorem trunkSetLineBecomesPending : Obligations.TrunkSetLineBecomesPending := by
  unfold Obligations.TrunkSetLineBecomesPending
  intro s n rest hi lo format gap turn f h hops hhi hf hgap ls u
  have hown := trunkSetLineCompletion_eq (s := s) (readLineSettings_eq (port := 0x00) (lo := lo) (turn := turn) hhi hf hgap)
  refine ⟨fun hpending => ?_, fun hnone hanswers => ?_, fun hnone hanswers => ?_⟩
  · rw [if_pos (Option.isSome_iff_ne_none.mpr hpending)] at hown
    exact exec_concluded_of_own_only h hops (by decide) rfl hown
  all_goals rw [hnone, Option.isSome_none, if_neg Bool.false_ne_true] at hown
  · exact exec_reported (u := u) h hops (by decide) rfl hown rfl hanswers rfl
  · exact ⟨_, exec_not_answered (u := u) h hops (by decide) rfl hown rfl hanswers, rfl⟩

/-! ## RESTART (R192) -/

/-- Settles O55: NOT_NOW while a restart is pending, and else the restart pending behind the response, or in effect at once. -/
theorem restartIsDeferredToItsResponse : Obligations.RestartIsDeferredToItsResponse := by
  unfold Obligations.RestartIsDeferredToItsResponse
  intro s n rest h hops
  have hown : restartCompletion s [] = if s.agent.restartPending then Completion.notNow
    else { verdict := .done [], effect := id, carry := .restart } := rfl
  refine ⟨fun hpending => ?_, fun hnone hanswers => ?_, fun hnone hanswers => ?_⟩
  · rw [if_pos hpending] at hown
    exact exec_concluded_of_own_only h hops (by decide) rfl hown
  all_goals rw [hnone, if_neg Bool.false_ne_true] at hown
  · exact exec_reported (u := s) h hops (by decide) rfl hown rfl hanswers rfl
  · exact ⟨_, exec_not_answered (u := s) h hops (by decide) rfl hown rfl hanswers, rfl⟩

end Sys2Proof.Machine
end

section
/-! PROOFS. The step of a part with no command waiting, and a cycle of REFCLK at each port (R154 to R164, R172): the first parts of
O2. -/

namespace Sys2Proof.Machine

/-! ## The moves (log entries 1 and 4) -/

section
variable {s : State}

theorem State.moves_of_due (h : s.due ≠ []) :
    s.moves = s.due.map .take ++ (if s.agent.left = 0 then [] else s.completion.map .take) := by
  unfold State.moves
  cases hd : s.due with
  | nil => exact absurd hd h
  | cons i l => rfl

theorem State.moves_of_not_due (h : s.due = []) : s.moves = .cycle :: s.completion.map .take := by
  unfold State.moves
  rw [h]

/-- While RST# is high one of the moves is made. -/
theorem State.idle_of_moves (hrst : s.rstLow = false) (hne : s.moves ≠ []) :
    ∃ m ∈ s.moves, ∃ k, s.idle = ({ s with choices := k } : State).make m := by
  have hhigh : ¬ s.rstLow = true := by rw [hrst]; exact Bool.false_ne_true
  unfold State.idle
  rw [if_neg hhigh]
  split
  case h_1 m hm =>
    rw [hm]
    exact ⟨m, List.mem_singleton_self m, s.choices, rfl⟩
  case h_2 =>
    have hlt : Config.choice s.choices % s.moves.length < s.moves.length :=
      Nat.mod_lt _ (List.length_pos_iff.mpr hne)
    refine ⟨_, List.getElem_mem hlt, s.choices + 1, ?_⟩
    rw [List.getD_eq_getElem?_getD, List.getElem?_eq_getElem hlt]
    rfl

theorem step_of_no_command (h : s.pending = []) : step s = .next s.idle := by
  unfold step
  rw [h]

theorem State.make_take (h : s.pending = []) (k : Nat) (i : Instr) :
    ({ s with choices := k } : State).make (.take i) = { s with pending := [i], choices := k } := by
  have hpending : s.pending ++ [i] = [i] := by rw [h]; rfl
  exact congrArg (fun l => { s with pending := l, choices := k }) hpending

/-- A part in which something is due takes an event. -/
theorem step_of_due (h : s.pending = []) (hrst : s.rstLow = false) (hdue : s.due ≠ []) :
    ∃ i ∈ s.due ++ s.completion, ∃ k, step s = .next { s with pending := [i], choices := k } := by
  have hmoves := State.moves_of_due hdue
  obtain ⟨m, hm, k, hidle⟩ := State.idle_of_moves hrst (by rw [hmoves]; simp [hdue])
  have htake : ∃ i ∈ s.due ++ s.completion, m = .take i := by
    rw [hmoves, List.mem_append] at hm
    rcases hm with hm | hm
    · obtain ⟨i, hi, rfl⟩ := List.mem_map.mp hm
      exact ⟨i, List.mem_append_left _ hi, rfl⟩
    · split at hm
      case isTrue => cases hm
      case isFalse =>
        obtain ⟨i, hi, rfl⟩ := List.mem_map.mp hm
        exact ⟨i, List.mem_append_right _ hi, rfl⟩
  obtain ⟨i, hi, rfl⟩ := htake
  exact ⟨i, hi, k, by rw [step_of_no_command h, hidle, State.make_take h]⟩

theorem State.completion_of_empty (h : s.agent.queue = []) : s.completion = [] := by
  unfold State.completion
  rw [h]

theorem State.completion_of_cons {n : BufferId} {rest : List BufferId} (h : s.agent.queue = n :: rest) :
    s.completion = [(s.commandIn n).event] := by
  unfold State.completion
  rw [h]

/-- With nothing due and no command executing, time goes on. -/
theorem step_of_quiet (h : s.pending = []) (hrst : s.rstLow = false) (hdue : s.due = []) (hqueue : s.agent.queue = []) :
    step s = .next s.cycle := by
  have hmoves : s.moves = [.cycle] := by rw [State.moves_of_not_due hdue, State.completion_of_empty hqueue]; rfl
  rw [step_of_no_command h, State.idle, hrst, if_neg Bool.false_ne_true, hmoves]
  rfl

/-- With nothing due and a command executing, time goes on or the command completes. -/
theorem step_of_executing {n : BufferId} {rest : List BufferId} (h : s.pending = []) (hrst : s.rstLow = false)
    (hdue : s.due = []) (hqueue : s.agent.queue = n :: rest) :
    step s = .next { s.cycle with choices := s.choices + 1 } ∨
    step s = .next { s with pending := [(s.commandIn n).event], choices := s.choices + 1 } := by
  have hmoves : s.moves = [.cycle, .take (s.commandIn n).event] := by
    rw [State.moves_of_not_due hdue, State.completion_of_cons hqueue]; rfl
  have hidle : s.idle = ({ s with choices := s.choices + 1 } : State).make
      ([Move.cycle, .take (s.commandIn n).event].getD (Config.choice s.choices % 2) .cycle) := by
    rw [State.idle, hrst, if_neg Bool.false_ne_true, hmoves]
    rfl
  rw [step_of_no_command h, hidle]
  rcases Nat.mod_two_eq_zero_or_one (Config.choice s.choices) with hm | hm
  · exact .inl (by rw [hm]; rfl)
  · right
    rw [hm, List.getD_cons_succ, List.getD_cons_zero, State.make_take h]

end

/-! ## A sample tick (R11, R155, R156, R160) -/

/-- Samples 7, 8 and 9 of each bit are kept (R156). -/
theorem RxCharacter.sample_eq (c : RxCharacter) (l : Level) : c.sample l =
    { count := c.count + 1
      samples := if (c.count + 1) % 16 = 7 ∨ (c.count + 1) % 16 = 8 ∨ (c.count + 1) % 16 = 9 then c.samples ++ [l] else c.samples } := by
  have hplace : (6 ≤ c.count % 16 ∧ c.count % 16 ≤ 8) ↔
      ((c.count + 1) % 16 = 7 ∨ (c.count + 1) % 16 = 8 ∨ (c.count + 1) % 16 = 9) := by omega
  simp only [RxCharacter.sample, hplace]

/-- What a receiver that watches makes of a sample tick. -/
theorem Receiver.sample_spec {taking : Bool} {P : Prop} (hP : taking = true ↔ P) (limit : Nat) (l : Level) (r : Receiver) :
    (r.sample taking limit l).level = l ∧ ((r.sample taking limit l).space = if l = .space then min (r.space + 1) limit else 0) ∧
    ((r.sample taking limit l).edge = true ↔ P ∧ r.char = none ∧ l = .space ∧ r.level = .mark) ∧
    (P → (r.sample taking limit l).char = r.char.map fun c =>
      { count := c.count + 1
        samples := if (c.count + 1) % 16 = 7 ∨ (c.count + 1) % 16 = 8 ∨ (c.count + 1) % 16 = 9 then c.samples ++ [l]
          else c.samples }) ∧
    (¬ P → (r.sample taking limit l).char = none) := by
  refine ⟨rfl, rfl, ?_, fun h => ?_, fun h => ?_⟩
  · simp [Receiver.sample, hP, and_assoc]
  · rw [Receiver.sample, if_pos (hP.mpr h)]
    exact congrArg (Option.map · r.char) (funext fun c => c.sample_eq l)
  · rw [Receiver.sample, if_neg (mt hP.mp h)]

theorem Assembly.tick_of_running {a : Assembly} {g : Nat} (h : a.gap = some g) : a.tick = { a with gap := some (g - 1) } := by
  rw [Assembly.tick, h]; rfl

theorem Assembly.tick_of_stopped {a : Assembly} (h : a.gap = none) : a.tick = a := by
  cases a; cases h; rfl

/-- A sample tick counts a running gap timer down, and leaves any other assembler as it is (R11). -/
theorem Assembly.map_tick (o : Option Assembly) :
    (∀ a g, o = some a → a.gap = some g → o.map Assembly.tick = some { a with gap := some (g - 1) }) ∧
    (o = none ∨ (∃ a, o = some a ∧ a.gap = none) → o.map Assembly.tick = o) := by
  refine ⟨fun a g h hgap => ?_, ?_⟩
  · rw [h, Option.map_some, Assembly.tick_of_running hgap]
  · rintro (rfl | ⟨a, rfl, hgap⟩)
    · rfl
    · rw [Option.map_some, Assembly.tick_of_stopped hgap]

theorem SlotPhase.tick_of_not_waiting {ph : SlotPhase} (h : ∀ left, ph ≠ .waiting left) : ph.tick = ph := by
  cases ph with
  | waiting left => exact absurd rfl (h left)
  | _ => rfl

/-! ## A cycle at a branch (R154) -/

section
variable (p : BranchPort)

theorem BranchPort.driverEnabled_iff : p.driverEnabled = true ↔ p.sending ≠ none ∨ ∃ k, p.line = .breakOut k := by
  rw [BranchPort.driverEnabled, Bool.or_eq_true, Option.isSome_iff_ne_none, LineState.isBreakOut_iff]

theorem BranchPort.cycle_of_lt (h : p.phase < p.settings.divisor.toNat) :
    p.cycle = { p with phase := p.phase + 1, sending := p.sending.map Transmission.cycle } := by
  rw [BranchPort.cycle, if_neg (by omega)]

theorem BranchPort.cycle_of_le (h : p.settings.divisor.toNat ≤ p.phase) :
    p.cycle = { p.tick with sending := p.sending.map Transmission.cycle } := by
  rw [BranchPort.cycle, if_pos h]
  rfl

theorem BranchPort.tickLine_spec (l : Level) :
    (∀ t, p.line = .quiet t → p.tickLine l = .quiet (min (t + 1) (15 * p.ct))) ∧
    (∀ j, p.line = .breakIn j → p.tickLine l = .breakIn (min (j + 1) (256 * p.ct))) ∧
    (∀ k, p.line = .breakOut k → p.tickLine l = .breakOut (k - 1)) ∧
    (∀ c, p.line = .settling c → p.sending = none → p.tickLine l = .settling (if l = .mark then min (c + 1) p.ct else 0)) ∧
    (∀ c, p.line = .settling c → p.sending ≠ none → p.tickLine l = .settling 0) ∧
    (p.line = .off ∨ p.line = .hearing ∨ (∃ a, p.line = .driving a) → p.tickLine l = p.line) := by
  unfold BranchPort.tickLine
  refine ⟨fun t h => by rw [h], fun j h => by rw [h], fun k h => by rw [h], fun c h hs => ?_, fun c h hs => ?_, ?_⟩
  · simp [h, hs]
  · simp [h, hs]
  · rintro (h | h | ⟨a, h⟩) <;> simp only [h]

theorem BranchPort.tick_slot :
    (∀ x left, p.slot = some x → x.phase = .waiting left → p.tick.slot = some { x with phase := .waiting (left - 1) }) ∧
    (p.slot = none ∨ (∃ x, p.slot = some x ∧ ∀ left, x.phase ≠ .waiting left) → p.tick.slot = p.slot) := by
  unfold BranchPort.tick
  refine ⟨fun x left h hphase => ?_, ?_⟩
  · simp only [h, Option.map_some, hphase, SlotPhase.tick]
  · rintro (h | ⟨x, h, hphase⟩)
    · simp only [h, Option.map_none]
    · simp only [h, Option.map_some, SlotPhase.tick_of_not_waiting hphase]

theorem BranchPort.tick_assembler : p.tick.assembler = p.assembler.map Assembly.tick := rfl

theorem BranchPort.tickReceiver_of_driving (h : p.sending ≠ none ∨ ∃ k, p.line = .breakOut k) (l : Level) :
    p.tickReceiver l = Receiver.blanked l := if_pos (p.driverEnabled_iff.mpr h)

theorem BranchPort.tickReceiver_of_off (h : p.sending = none) (hoff : p.line = .off) (l : Level) :
    p.tickReceiver l = Receiver.fresh := by
  have hdriver : ¬ p.driverEnabled = true := by rw [p.driverEnabled_iff]; simp [h, hoff]
  exact (if_neg hdriver).trans (if_pos (p.line.isOff_iff.mpr hoff))

theorem BranchPort.tickReceiver_of_watching (h : p.sending = none) (hoff : p.line ≠ .off) (hout : ∀ k, p.line ≠ .breakOut k)
    (l : Level) : p.tickReceiver l = p.receiver.sample p.line.delivers (2 * p.ct) l := by
  have hdriver : ¬ p.driverEnabled = true := by rw [p.driverEnabled_iff]; simp [h, hout]
  exact (if_neg hdriver).trans (if_neg (mt p.line.isOff_iff.mp hoff))

end

/-! ## A cycle at the trunk (R154, R165) -/

section
variable (t : TrunkPort)

theorem TrunkPort.cycle_of_lt (h : t.phase < t.rxSettings.divisor.toNat) :
    t.cycle = { t with phase := t.phase + 1, transmitter := t.transmitter.cycle } := by
  rw [TrunkPort.cycle, if_neg (by omega)]

theorem TrunkPort.cycle_of_le (h : t.rxSettings.divisor.toNat ≤ t.phase) :
    t.cycle = { t.tick with transmitter := t.transmitter.cycle } := by
  rw [TrunkPort.cycle, if_pos h]
  rfl

theorem TrunkPort.cycle_transmitter : t.cycle.transmitter = t.transmitter.cycle := by
  rcases Nat.lt_or_ge t.phase t.rxSettings.divisor.toNat with h | h
  · rw [t.cycle_of_lt h]
  · rw [t.cycle_of_le h]

theorem TrunkPort.tickLine_spec (l : Level) :
    (∀ c, t.line = .settling c → t.tickLine l = .settling (if l = .mark then min (c + 1) t.rxSettings.ct else 0)) ∧
    ((∀ c, t.line ≠ .settling c) → t.tickLine l = t.line) := by
  cases hl : t.line <;> simp [TrunkPort.tickLine, hl]

theorem TrunkPort.tick_assembler : t.tick.assembler = t.assembler.map Assembly.tick := rfl

end

end Sys2Proof.Machine
end

section
/-! PROOFS. The events that are due, row by row, at every port (R11, R156 to R162): the second part of O2. -/

namespace Sys2Proof.Machine

/-! ## Where an event can be due -/

/-- The port of a row that every port has. -/
def portRow : Instr → Option Port
  | .addressCharacter p _ _ _ | .dataCharacter p _ _ _ | .startBitLeadingEdge p | .falseStart p | .gapTimerExpiry p
  | .stoppedCharacterEnd p | .breakEnd p | .settlingEnd p => some p
  | _ => none

/-- The port at which an event is due: none for the grant and the completions of commands. -/
def duePort : Instr → Option Port
  | .sendStart b | .endOfTransmission b | .replyTimerExpiry b | .datagramStart b | .datagramEnd b | .breakHeard b | .jam b
  | .breakEmissionEnd b => some (.branch b)
  | .trunkLineReset | .spacingEnd | .transmissionEnd => some .trunk
  | i => portRow i

theorem eq_delivery_iff (i : Instr) (c : RxCharacter) (f : Format) (p : Port) : i = c.delivery f p ↔
    (c.markBit = true ∧ i = .addressCharacter p c.byte (c.isNoisy f) (c.isDamaged f)) ∨
    (c.markBit = false ∧ i = .dataCharacter p c.byte (c.isNoisy f) (c.isDamaged f)) := by
  cases h : c.markBit <;> simp [RxCharacter.delivery, h]

section
variable {s : State} {i : Instr}

theorem State.duePort_of_portDue {p : Port} (h : i ∈ s.portDue p) : duePort i = some p := by
  rw [State.mem_portDue] at h
  rcases h with ⟨-, rfl⟩ | ⟨-, rfl⟩ | ⟨c, -, -, hi⟩ | ⟨-, rfl⟩ | ⟨-, rfl⟩ | ⟨-, rfl⟩ | ⟨-, rfl⟩
  case inr.inr.inl =>
    rcases (eq_delivery_iff i c _ p).mp hi with ⟨-, rfl⟩ | ⟨-, rfl⟩ <;> rfl
  all_goals rfl

theorem State.duePort_of_branchDue {b : Branch} (h : i ∈ s.branchDue b) : duePort i = some (.branch b) := by
  rw [State.mem_branchDue] at h
  rcases h with h | ⟨-, rfl⟩ | ⟨-, rfl⟩ | ⟨-, rfl⟩ | ⟨-, rfl⟩ | ⟨-, rfl⟩ | ⟨-, rfl⟩ | ⟨-, rfl⟩ | ⟨-, rfl⟩
  case inl => exact State.duePort_of_portDue h
  all_goals rfl

theorem State.duePort_of_trunkDue (h : i ∈ s.trunkDue) : duePort i = some .trunk ∨ i = .grant := by
  rw [State.mem_trunkDue] at h
  rcases h with h | ⟨-, rfl⟩ | ⟨-, rfl⟩ | ⟨-, rfl⟩ | ⟨-, rfl⟩
  case inl => exact .inl (State.duePort_of_portDue h)
  case inr.inr.inr.inr => exact .inr rfl
  all_goals exact .inl rfl

theorem Command.duePort_event (c : Command) : duePort c.event = none := by cases c <;> rfl

theorem Command.event_ne_grant (c : Command) : c.event ≠ .grant := by cases c <;> nofun

theorem State.duePort_of_completion (h : i ∈ s.completion) : duePort i = none ∧ i ≠ .grant := by
  unfold State.completion at h
  split at h
  case h_1 => cases h
  case h_2 n rest hq =>
    rw [List.mem_singleton.mp h]
    exact ⟨Command.duePort_event _, Command.event_ne_grant _⟩

theorem State.mem_due_of_branch {b : Branch} (h : duePort i = some (.branch b)) : i ∈ s.due ↔ i ∈ s.branchDue b := by
  rw [State.mem_due]
  refine ⟨?_, fun hi => .inr (.inl ⟨b, hi⟩)⟩
  rintro (hi | ⟨c, hi⟩ | ⟨-, hi⟩)
  · rcases State.duePort_of_trunkDue hi with hp | rfl
    · exact absurd (h.symm.trans hp) (by simp)
    · cases h
  · have hp := h.symm.trans (State.duePort_of_branchDue hi)
    obtain rfl : b = c := Port.branch.inj (Option.some.inj hp)
    exact hi
  · exact absurd (h.symm.trans (State.duePort_of_completion hi).1) (by simp)

theorem State.mem_due_of_trunk (h : duePort i = some .trunk ∨ i = .grant) : i ∈ s.due ↔ i ∈ s.trunkDue := by
  have hbranch : ∀ b, duePort i ≠ some (.branch b) := by
    intro b hb
    rcases h with h | rfl
    · exact absurd (h.symm.trans hb) (by simp)
    · cases hb
  have hcommand : duePort i = none → i = .grant := fun hn => h.resolve_left (by rw [hn]; simp)
  rw [State.mem_due]
  refine ⟨?_, .inl⟩
  rintro (hi | ⟨b, hi⟩ | ⟨-, hi⟩)
  · exact hi
  · exact absurd (State.duePort_of_branchDue hi) (hbranch b)
  · obtain ⟨hp, hne⟩ := State.duePort_of_completion hi
    exact absurd (hcommand hp) hne

theorem State.mem_due_command (c : Command) : c.event ∈ s.due ↔ s.agent.left = 0 ∧ c.event ∈ s.completion := by
  rw [State.mem_due]
  refine ⟨?_, fun h => .inr (.inr h)⟩
  rintro (hi | ⟨b, hi⟩ | hi)
  · rcases State.duePort_of_trunkDue hi with hp | hg
    · exact absurd (c.duePort_event.symm.trans hp) (by simp)
    · exact absurd hg c.event_ne_grant
  · exact absurd (c.duePort_event.symm.trans (State.duePort_of_branchDue hi)) (by simp)
  · exact hi

theorem duePort_of_portRow {p : Port} (h : portRow i = some p) : duePort i = some p := by
  cases i with
  | addressCharacter | dataCharacter | startBitLeadingEdge | falseStart | gapTimerExpiry | stoppedCharacterEnd | breakEnd
  | settlingEnd => exact h
  | _ => cases h

theorem State.mem_due_of_portRow {p : Port} (h : portRow i = some p) : i ∈ s.due ↔ i ∈ s.portDue p := by
  cases p with
  | trunk =>
    rw [State.mem_due_of_trunk (.inl (duePort_of_portRow h)), State.mem_trunkDue]
    refine ⟨?_, .inl⟩
    rintro (hi | ⟨-, rfl⟩ | ⟨-, rfl⟩ | ⟨-, rfl⟩ | ⟨-, rfl⟩)
    case inl => exact hi
    all_goals cases h
  | branch b =>
    rw [State.mem_due_of_branch (duePort_of_portRow h), State.mem_branchDue]
    refine ⟨?_, .inl⟩
    rintro (hi | ⟨-, rfl⟩ | ⟨-, rfl⟩ | ⟨-, rfl⟩ | ⟨-, rfl⟩ | ⟨-, rfl⟩ | ⟨-, rfl⟩ | ⟨-, rfl⟩ | ⟨-, rfl⟩)
    case inl => exact hi
    all_goals cases h

/-- An event of another row than those of every port is not among these. -/
theorem State.not_mem_portDue {p : Port} (h : portRow i = none) : i ∉ s.portDue p := by
  intro hi
  rw [State.mem_portDue] at hi
  rcases hi with ⟨-, rfl⟩ | ⟨-, rfl⟩ | ⟨c, -, -, hi⟩ | ⟨-, rfl⟩ | ⟨-, rfl⟩ | ⟨-, rfl⟩ | ⟨-, rfl⟩
  case inr.inr.inl =>
    rcases (eq_delivery_iff i c _ p).mp hi with ⟨-, rfl⟩ | ⟨-, rfl⟩ <;> cases h
  all_goals cases h

end

/-! ## What is due at any port (R11, R156 to R160, R162) -/

section
variable (s : State) (p : Port)

/-- A character is at its end on a HEARING line, with these values read: its stop bits are at mark, or it is held and the pin is
at mark (R159). -/
def State.CharacterEnded (markBit : Bool) (v : Byte) (noisy damaged : Bool) : Prop :=
  s.isHearing p = true ∧ ∃ c, (s.receiver p).char = some c ∧ (s.receiveSettings p).ct ≤ c.count ∧
    (c.stopsAtMark (s.receiveSettings p).format = true ∨
      ((s.receiveSettings p).ct < c.count ∧ (s.receiver p).level = .mark)) ∧
    c.markBit = markBit ∧ c.byte = v ∧ c.isNoisy (s.receiveSettings p).format = noisy ∧
    c.isDamaged (s.receiveSettings p).format = damaged

theorem Receiver.delivers_iff {r : Receiver} {c : RxCharacter} (h : r.char = some c) (f : Format) : r.delivers f = true ↔
    16 * f.bits ≤ c.count ∧ (c.stopsAtMark f = true ∨ (16 * f.bits < c.count ∧ r.level = .mark)) := by
  simp [Receiver.delivers, h, RxCharacter.ended, RxCharacter.isHeld]

/-- The delivery that is due is of the character that has ended. -/
theorem State.characterEnded_iff (markBit : Bool) (v : Byte) (noisy damaged : Bool) :
    s.CharacterEnded p markBit v noisy damaged ↔ ∃ c, (s.receiver p).char = some c ∧
      ((s.receiver p).delivers (s.receiveSettings p).format = true ∧ s.isHearing p = true) ∧ c.markBit = markBit ∧ v = c.byte ∧
      noisy = c.isNoisy (s.receiveSettings p).format ∧ damaged = c.isDamaged (s.receiveSettings p).format := by
  refine ⟨fun ⟨hh, c, hc, he, hl, hm, hv, hn, hg⟩ => ?_, fun ⟨c, hc, ⟨hd, hh⟩, hm, hv, hn, hg⟩ => ?_⟩
  · exact ⟨c, hc, ⟨(Receiver.delivers_iff hc _).mpr ⟨he, hl⟩, hh⟩, hm, hv.symm, hn.symm, hg.symm⟩
  · obtain ⟨he, hl⟩ := (Receiver.delivers_iff hc _).mp hd
    exact ⟨hh, c, hc, he, hl, hm, hv.symm, hn.symm, hg.symm⟩

theorem State.due_addressCharacter (v : Byte) (noisy damaged : Bool) :
    .addressCharacter p v noisy damaged ∈ s.due ↔ s.CharacterEnded p true v noisy damaged := by
  rw [State.mem_due_of_portRow rfl, State.mem_portDue, State.characterEnded_iff]
  simp [eq_delivery_iff]

theorem State.due_dataCharacter (v : Byte) (noisy damaged : Bool) :
    .dataCharacter p v noisy damaged ∈ s.due ↔ s.CharacterEnded p false v noisy damaged := by
  rw [State.mem_due_of_portRow rfl, State.mem_portDue, State.characterEnded_iff]
  simp [eq_delivery_iff]

theorem State.due_startBit : .startBitLeadingEdge p ∈ s.due ↔
    s.delivers p = true ∧ (s.receiver p).char = none ∧ (s.receiver p).edge = true := by
  rw [State.mem_due_of_portRow rfl, State.mem_portDue]
  simp [eq_delivery_iff, State.takesEdge, and_comm, and_left_comm]

theorem State.due_falseStart : .falseStart p ∈ s.due ↔
    s.isHearing p = true ∧ ∃ c, (s.receiver p).char = some c ∧ c.count = 9 ∧ c.value 0 = true := by
  rw [State.mem_due_of_portRow rfl, State.mem_portDue]
  cases h : (s.receiver p).char <;>
    simp [eq_delivery_iff, State.takesFalseStart, Receiver.falseStart, RxCharacter.isFalseStart, h, and_comm]

theorem State.due_gapTimerExpiry : .gapTimerExpiry p ∈ s.due ↔ ∃ a, s.assembler p = some a ∧ a.gap = some 0 := by
  rw [State.mem_due_of_portRow rfl, State.mem_portDue]
  cases h : s.assembler p <;> simp [eq_delivery_iff, State.gapTimerExpiryDue, Assembly.gapExpired, h]

theorem State.due_stoppedCharacterEnd : .stoppedCharacterEnd p ∈ s.due ↔ s.stoppedCharacterEndDue p = true := by
  rw [State.mem_due_of_portRow rfl, State.mem_portDue]
  simp [eq_delivery_iff]

theorem State.due_breakEnd : .breakEnd p ∈ s.due ↔ s.isBreakIn p = true ∧ (s.receiver p).level = .mark := by
  rw [State.mem_due_of_portRow rfl, State.mem_portDue]
  simp [eq_delivery_iff]

theorem State.due_settlingEnd : .settlingEnd p ∈ s.due ↔ s.isSettling p = true ∧ s.settled p = true := by
  rw [State.mem_due_of_portRow rfl, State.mem_portDue]
  simp [eq_delivery_iff]

end

end Sys2Proof.Machine
end

section
/-! PROOFS. The events that are due at a branch, on the trunk and at the arbiter, and what an idle part does (R45, R98, R121, R138,
R172): O2. -/

namespace Sys2Proof.Machine

/-! ## What is due at a branch -/

section
variable (s : State) (b : Branch)

theorem State.characterEnded_branch_iff (markBit : Bool) (v : Byte) (noisy damaged : Bool) :
    s.CharacterEnded (.branch b) markBit v noisy damaged ↔ (s.branch b).line = .hearing ∧
      ∃ c, (s.branch b).receiver.char = some c ∧ (s.branch b).settings.ct ≤ c.count ∧
        (c.stopsAtMark (s.branch b).settings.format = true ∨
          ((s.branch b).settings.ct < c.count ∧ (s.branch b).receiver.level = .mark)) ∧
        c.markBit = markBit ∧ c.byte = v ∧ c.isNoisy (s.branch b).settings.format = noisy ∧
        c.isDamaged (s.branch b).settings.format = damaged :=
  and_congr_left fun _ => s.isHearing_branch_iff b

theorem BranchPort.sendStartDue_iff (p : BranchPort) : p.sendStartDue = true ↔
    (∃ x, p.slot = some x ∧ x.phase = .ready) ∧ ∃ t, p.line = .quiet t ∧ p.turnaround * p.ct ≤ t := by
  cases hs : p.slot <;> cases hl : p.line <;> simp [BranchPort.sendStartDue, hs, hl]

theorem BranchPort.endOfTransmissionDue_iff (p : BranchPort) : p.endOfTransmissionDue = true ↔
    (∃ x, p.slot = some x ∧ x.phase = .sending) ∧ p.line = .driving .frame ∧
      ∃ tx, p.sending = some tx ∧ tx.chars.length ≤ tx.sent := by
  cases hs : p.slot <;> cases ht : p.sending <;>
    simp [BranchPort.endOfTransmissionDue, Transmission.finished_iff, and_assoc, hs, ht]

theorem BranchPort.replyTimerExpiryDue_iff (p : BranchPort) : p.replyTimerExpiryDue = true ↔
    ∃ x, p.slot = some x ∧ x.phase = .waiting 0 := by
  cases hs : p.slot <;> simp [BranchPort.replyTimerExpiryDue, hs]

theorem BranchPort.datagramEndDue_iff (p : BranchPort) : p.datagramEndDue = true ↔
    p.datagram ≠ none ∧ p.line = .driving .frame ∧ ∃ tx, p.sending = some tx ∧ tx.chars.length ≤ tx.sent := by
  cases hd : p.datagram <;> cases ht : p.sending <;> simp [BranchPort.datagramEndDue, Transmission.finished_iff, hd, ht]

theorem BranchPort.stoppedCharacterEndDue_iff (p : BranchPort) : p.stoppedCharacterEndDue = true ↔
    (p.line = .off ∨ (∃ c, p.line = .settling c) ∨ p.line = .driving .emission ∨ p.line = .driving .settle) ∧
      ∃ tx, p.sending = some tx ∧ tx.chars.length ≤ tx.sent := by
  rw [← LineState.finishesStopped_iff]
  cases ht : p.sending <;> simp [BranchPort.stoppedCharacterEndDue, Transmission.finished_iff, ht]

theorem BranchPort.jamDue_iff (p : BranchPort) : p.jamDue = true ↔ ∃ j, p.line = .breakIn j ∧ 256 * p.ct ≤ j := by
  cases hl : p.line <;> simp [BranchPort.jamDue, hl]

theorem State.settled_branch_iff : s.settled (.branch b) = true ↔ ∃ c, (s.branch b).line = .settling c ∧ (s.branch b).ct ≤ c := by
  cases hl : (s.branch b).line <;> simp [State.settled, hl]

theorem State.due_settlingEnd_branch : .settlingEnd (.branch b) ∈ s.due ↔
    (∃ c, (s.branch b).line = .settling c ∧ (s.branch b).ct ≤ c) ∧ (s.branch b).sending = none := by
  rw [State.due_settlingEnd, State.isSettling_branch_iff, State.settled_branch_iff]
  exact ⟨fun ⟨⟨_, hs⟩, hc⟩ => ⟨hc, hs⟩, fun ⟨⟨c, hl, hc⟩, hs⟩ => ⟨⟨⟨c, hl⟩, hs⟩, c, hl, hc⟩⟩

theorem State.due_sendStart : .sendStart b ∈ s.due ↔ (s.branch b).sendStartDue = true := by
  rw [State.mem_due_of_branch rfl, State.mem_branchDue]
  simp [State.not_mem_portDue (i := .sendStart b) rfl]

theorem State.due_endOfTransmission : .endOfTransmission b ∈ s.due ↔ (s.branch b).endOfTransmissionDue = true := by
  rw [State.mem_due_of_branch rfl, State.mem_branchDue]
  simp [State.not_mem_portDue (i := .endOfTransmission b) rfl]

theorem State.due_replyTimerExpiry : .replyTimerExpiry b ∈ s.due ↔ (s.branch b).replyTimerExpiryDue = true := by
  rw [State.mem_due_of_branch rfl, State.mem_branchDue]
  simp [State.not_mem_portDue (i := .replyTimerExpiry b) rfl]

theorem State.due_datagramStart : .datagramStart b ∈ s.due ↔
    (∃ n rest, (s.branch b).queue = n :: rest ∧ (s.desc n).kind = .datagram) ∧ (s.branch b).slot = none ∧
      ∃ t, (s.branch b).line = .quiet t ∧ (s.branch b).turnaround * (s.branch b).ct ≤ t := by
  rw [State.mem_due_of_branch rfl, State.mem_branchDue, ← State.headIsDatagram_iff, ← BranchPort.turnaroundPassed_iff]
  simp [State.not_mem_portDue (i := .datagramStart b) rfl, State.datagramStartDue, and_assoc]

theorem State.due_datagramEnd : .datagramEnd b ∈ s.due ↔ (s.branch b).datagramEndDue = true := by
  rw [State.mem_due_of_branch rfl, State.mem_branchDue]
  simp [State.not_mem_portDue (i := .datagramEnd b) rfl]

theorem State.spaceFor2ct_branch_iff :
    s.spaceFor2ct (.branch b) = true ↔ 2 * (s.branch b).ct ≤ (s.branch b).receiver.space := decide_eq_true_iff

theorem State.due_breakHeard : .breakHeard b ∈ s.due ↔
    (s.branch b).line.hearsBreak = true ∧ (s.branch b).sending = none ∧ 2 * (s.branch b).ct ≤ (s.branch b).receiver.space := by
  rw [State.mem_due_of_branch rfl, State.mem_branchDue]
  simp [State.not_mem_portDue (i := .breakHeard b) rfl, BranchPort.takesBreak, State.spaceFor2ct_branch_iff, and_assoc]

theorem State.due_jam : .jam b ∈ s.due ↔ (s.branch b).jamDue = true := by
  rw [State.mem_due_of_branch rfl, State.mem_branchDue]
  simp [State.not_mem_portDue (i := .jam b) rfl]

theorem State.due_breakEmissionEnd : .breakEmissionEnd b ∈ s.due ↔ (s.branch b).line = .breakOut 0 := by
  rw [State.mem_due_of_branch rfl, State.mem_branchDue]
  simp [State.not_mem_portDue (i := .breakEmissionEnd b) rfl, BranchPort.breakEmissionEndDue]

end

/-! ## What is due on the trunk and at the arbiter -/

section
variable (s : State)

theorem State.characterEnded_trunk_iff (markBit : Bool) (v : Byte) (noisy damaged : Bool) :
    s.CharacterEnded .trunk markBit v noisy damaged ↔ s.trunk.line = .hearing ∧
      ∃ c, s.trunk.receiver.char = some c ∧ s.trunk.rxSettings.ct ≤ c.count ∧
        (c.stopsAtMark s.trunk.rxSettings.format = true ∨ (s.trunk.rxSettings.ct < c.count ∧ s.trunk.receiver.level = .mark)) ∧
        c.markBit = markBit ∧ c.byte = v ∧ c.isNoisy s.trunk.rxSettings.format = noisy ∧
        c.isDamaged s.trunk.rxSettings.format = damaged :=
  and_congr_left fun _ => s.isHearing_trunk_iff

theorem State.due_settlingEnd_trunk : .settlingEnd .trunk ∈ s.due ↔ ∃ c, s.trunk.line = .settling c ∧ s.trunk.rxSettings.ct ≤ c := by
  rw [State.due_settlingEnd]
  cases hl : s.trunk.line <;> simp [State.isSettling, State.settled, hl]

theorem State.due_stoppedCharacterEnd_trunk : .stoppedCharacterEnd .trunk ∈ s.due ↔
    ∃ tx, s.trunk.transmitter = .stopping tx ∧ tx.chars.length ≤ tx.sent := by
  rw [State.due_stoppedCharacterEnd]
  cases ht : s.trunk.transmitter <;>
    simp [State.stoppedCharacterEndDue, TrunkPort.stoppedCharacterEndDue, Transmission.finished_iff, ht]

theorem State.spaceFor2ct_trunk_iff :
    s.spaceFor2ct .trunk = true ↔ 2 * s.trunk.rxSettings.ct ≤ s.trunk.receiver.space := decide_eq_true_iff

theorem State.due_trunkLineReset : .trunkLineReset ∈ s.due ↔
    s.trunk.line.hearsBreak = true ∧ 2 * s.trunk.rxSettings.ct ≤ s.trunk.receiver.space := by
  rw [State.mem_due_of_trunk (.inl rfl), State.mem_trunkDue]
  simp [State.not_mem_portDue (i := .trunkLineReset) rfl, State.spaceFor2ct_trunk_iff]

theorem State.due_spacingEnd : .spacingEnd ∈ s.due ↔ s.trunk.transmitter = .spacing 0 := by
  rw [State.mem_due_of_trunk (.inl rfl), State.mem_trunkDue]
  simp [State.not_mem_portDue (i := .spacingEnd) rfl, TrunkPort.spacingEndDue]

theorem State.due_transmissionEnd : .transmissionEnd ∈ s.due ↔
    ∃ item tx, s.trunk.transmitter = .sending item tx ∧ tx.chars.length ≤ tx.sent := by
  rw [State.mem_due_of_trunk (.inl rfl), State.mem_trunkDue]
  cases ht : s.trunk.transmitter <;>
    simp [State.not_mem_portDue (i := .transmissionEnd) rfl, TrunkPort.transmissionEndDue, Transmission.finished_iff, ht]

theorem State.due_grant : .grant ∈ s.due ↔ s.pool.reserved < s.pool.free.length ∧ ∃ b ∈ s.pool.waiting, s.eligible b = true := by
  rw [State.mem_due_of_trunk (.inr rfl), State.mem_trunkDue, ← State.possible_grant_iff]
  simp [State.not_mem_portDue (i := .grant) rfl, State.possible]

theorem State.due_command (c : Command) : c.event ∈ s.due ↔
    s.agent.left = 0 ∧ ∃ n rest, s.agent.queue = n :: rest ∧ s.commandIn n = c := by
  rw [State.mem_due_command, State.mem_completion]

/-- The two rows of the reset input are never due. -/
theorem State.not_due_of_reset {i : Instr} (hport : duePort i = none) (hgrant : i ≠ .grant) (hcommand : ∀ c : Command, c.event ≠ i) :
    i ∉ s.due := by
  rw [State.mem_due]
  rintro (hi | ⟨b, hi⟩ | ⟨-, hi⟩)
  · rcases State.duePort_of_trunkDue hi with hp | hg
    · exact absurd (hport.symm.trans hp) (by simp)
    · exact hgrant hg
  · exact absurd (hport.symm.trans (State.duePort_of_branchDue hi)) (by simp)
  · exact s.not_mem_completion i hcommand hi

end

/-! ## The obligation -/

theorem State.cycle_branch (s : State) (b : Branch) : s.cycle.branch b = (s.branch b).cycle := PerBranch.get_map _ _ b

/-- Settles O2: the moves of an idle part, the cycle at each port, and the events that are due row by row. -/
theorem idleTakesDueEventsBeforeTime : Obligations.IdleTakesDueEventsBeforeTime := by
  unfold Obligations.IdleTakesDueEventsBeforeTime
  refine ⟨fun s hpending hrst => ⟨step_of_due hpending hrst, step_of_quiet hpending hrst, ?completion,
    fun n rest => step_of_executing hpending hrst⟩, fun s b => ?branch, fun s => ?trunk, fun s b => ?dueBranch, fun s => ?dueTrunk⟩
  case completion => rfl
  case branch =>
    intro p q ct l sampled taking
    have htaking : p.line.delivers = true ↔ taking := LineState.delivers_iff _
    have hq : q = p.cycle := s.cycle_branch b
    refine ⟨fun h => by rw [hq, p.cycle_of_lt h], fun h => ?_⟩
    rw [hq, p.cycle_of_le h]
    obtain ⟨hquiet, hin, hout, hsettling, hfinishing, hother⟩ := p.tickLine_spec l
    obtain ⟨hwaiting, hslot⟩ := p.tick_slot
    obtain ⟨hgap, hassembler⟩ := Assembly.map_tick p.assembler
    rw [← p.tick_assembler] at hgap hassembler
    refine ⟨rfl, hquiet, hin, hout, hsettling, hfinishing, hother, hwaiting, hslot, hgap, hassembler,
      fun hd => p.tickReceiver_of_driving hd l, fun hs hoff hbreak => ?_, fun hs hoff => p.tickReceiver_of_off hs hoff l⟩
    have hreceiver : p.tick.receiver = p.receiver.sample p.line.delivers (2 * p.ct) l := p.tickReceiver_of_watching hs hoff hbreak l
    dsimp only
    rw [hreceiver]
    exact Receiver.sample_spec htaking _ l p.receiver
  case trunk =>
    intro p q ct l sampled taking
    have htaking : p.line.delivers = true ↔ taking := TrunkLine.delivers_iff _
    have hq : q = p.cycle := rfl
    have htransmitter : q.transmitter = p.transmitter.cycle := p.cycle_transmitter
    refine ⟨rfl, fun left h => ?_, fun h => ?_, fun item tx h => ?_, fun tx h => ?_, fun h => ?_, fun h => ?_⟩
    · rw [htransmitter, h]; rfl
    · rw [htransmitter, h]; rfl
    · rw [htransmitter, h]; rfl
    · rw [htransmitter, h]; rfl
    · rw [hq, p.cycle_of_lt h]
    · rw [hq, p.cycle_of_le h]
      obtain ⟨hsettling, hother⟩ := p.tickLine_spec l
      obtain ⟨hgap, hassembler⟩ := Assembly.map_tick p.assembler
      rw [← p.tick_assembler] at hgap hassembler
      exact ⟨rfl, hsettling, hother, hgap, hassembler, Receiver.sample_spec htaking _ l p.receiver⟩
  case dueBranch =>
    intro p r f ct due hears gap sent ended
    refine ⟨fun v noisy damaged => (s.due_addressCharacter (.branch b) v noisy damaged).trans (s.characterEnded_branch_iff b _ _ _ _),
      fun v noisy damaged => (s.due_dataCharacter (.branch b) v noisy damaged).trans (s.characterEnded_branch_iff b _ _ _ _),
      (s.due_startBit (.branch b)).trans (and_congr_left fun _ => s.delivers_branch_iff b),
      (s.due_falseStart (.branch b)).trans (and_congr_left fun _ => s.isHearing_branch_iff b),
      s.due_gapTimerExpiry (.branch b), (s.due_breakHeard b).trans ?_,
      (s.due_breakEnd (.branch b)).trans (and_congr_left fun _ => s.isBreakIn_branch_iff b), s.due_settlingEnd_branch b,
      (s.due_jam b).trans p.jamDue_iff, s.due_breakEmissionEnd b, (s.due_sendStart b).trans p.sendStartDue_iff,
      (s.due_endOfTransmission b).trans p.endOfTransmissionDue_iff, (s.due_replyTimerExpiry b).trans p.replyTimerExpiryDue_iff,
      s.due_datagramStart b, (s.due_datagramEnd b).trans p.datagramEndDue_iff,
      (s.due_stoppedCharacterEnd (.branch b)).trans p.stoppedCharacterEndDue_iff⟩
    rw [LineState.hearsBreak_iff, ← or_assoc]
    rfl
  case dueTrunk =>
    intro p r f ct due hears ended
    refine ⟨fun v noisy damaged => (s.due_addressCharacter .trunk v noisy damaged).trans (s.characterEnded_trunk_iff _ _ _ _),
      fun v noisy damaged => (s.due_dataCharacter .trunk v noisy damaged).trans (s.characterEnded_trunk_iff _ _ _ _),
      (s.due_startBit .trunk).trans (and_congr_left fun _ => s.delivers_trunk_iff),
      (s.due_falseStart .trunk).trans (and_congr_left fun _ => s.isHearing_trunk_iff), s.due_gapTimerExpiry .trunk,
      s.due_trunkLineReset.trans ?_, (s.due_breakEnd .trunk).trans (and_congr_left fun _ => s.isBreakIn_trunk_iff),
      s.due_settlingEnd_trunk, s.due_spacingEnd, s.due_transmissionEnd, s.due_stoppedCharacterEnd_trunk, s.due_grant, s.due_command,
      s.not_due_of_reset rfl nofun fun c => by cases c <;> nofun,
      fun sa tr => s.not_due_of_reset rfl nofun fun c => by cases c <;> nofun⟩
    rw [TrunkLine.hearsBreak_iff, ← or_assoc]
    rfl

end Sys2Proof.Machine
end

section
/-! PROOFS. The bits of a character, and what a receiver reads of them (R152, R153, R156 to R159): the first parts of O16. -/

namespace Sys2Proof.Machine

/-! ## Parity (R153, R158) -/

theorem foldl_xor_eq (bits : List Bool) : ∀ a : Bool, bits.foldl xor a = xor a (decide (bits.count true % 2 = 1)) := by
  induction bits with
  | nil => simp
  | cons b bits ih =>
    intro a
    rw [List.foldl_cons, ih]
    cases b with
    | false => simp
    | true =>
      have hstep : decide ((bits.count true + 1) % 2 = 1) = !decide (bits.count true % 2 = 1) := by
        rw [← decide_not]
        exact decide_eq_decide.mpr (by omega)
      simp [hstep]

theorem oddOnes_iff (bits : List Bool) : oddOnes bits = true ↔ bits.count true % 2 = 1 := by
  rw [oddOnes, foldl_xor_eq, Bool.false_xor, decide_eq_true_iff]

theorem oddOnes_eq_false_iff (bits : List Bool) : oddOnes bits = false ↔ bits.count true % 2 = 0 := by
  rw [← Bool.not_eq_true, oddOnes_iff]
  omega

theorem count_true_map {α : Type} (g : α → Bool) (l : List α) : (l.map g).count true = l.countP g := by
  rw [List.count, List.countP_map]
  exact List.countP_congr fun x _ => by simp

/-! ## The 8-bit value (R152) -/

/-- A number built from eight bits, the least significant first, has these bits. -/
theorem byteOf_foldr_getLsbD (g : Nat → Bool) {j : Nat} (hj : j < 8) :
    (byteOf ((List.range 8).foldr (fun j n => 2 * n + (g j).toNat) 0)).getLsbD j = g j := by
  have hbits : ∀ b₀ b₁ b₂ b₃ b₄ b₅ b₆ b₇ : Bool,
      let c := byteOf (2 * (2 * (2 * (2 * (2 * (2 * (2 * (2 * 0 + b₇.toNat) + b₆.toNat) + b₅.toNat) + b₄.toNat) + b₃.toNat)
        + b₂.toNat) + b₁.toNat) + b₀.toNat)
      c.getLsbD 0 = b₀ ∧ c.getLsbD 1 = b₁ ∧ c.getLsbD 2 = b₂ ∧ c.getLsbD 3 = b₃ ∧ c.getLsbD 4 = b₄ ∧ c.getLsbD 5 = b₅ ∧
        c.getLsbD 6 = b₆ ∧ c.getLsbD 7 = b₇ := by decide
  obtain ⟨h0, h1, h2, h3, h4, h5, h6, h7⟩ := hbits (g 0) (g 1) (g 2) (g 3) (g 4) (g 5) (g 6) (g 7)
  interval_cases j
  · exact h0
  · exact h1
  · exact h2
  · exact h3
  · exact h4
  · exact h5
  · exact h6
  · exact h7

/-! ## What is read of a character (R157 to R159) -/

section
variable (c : RxCharacter) (f : Format)

theorem RxCharacter.value_eq (j : Nat) : c.value j = decide (2 ≤ ((c.samples.drop (3 * j)).take 3).count .mark) := by
  rw [RxCharacter.value, majority, RxCharacter.bit, List.count, List.countP_eq_length_filter]

theorem RxCharacter.byte_getLsbD {j : Nat} (hj : j < 8) : c.byte.getLsbD j = c.value (j + 1) :=
  byteOf_foldr_getLsbD (fun j => c.value (j + 1)) hj

theorem RxCharacter.isNoisy_iff : c.isNoisy f = true ↔
    ∃ j, j < f.bits ∧ .mark ∈ (c.samples.drop (3 * j)).take 3 ∧ .space ∈ (c.samples.drop (3 * j)).take 3 := by
  simp [RxCharacter.isNoisy, unequal, RxCharacter.bit]

/-- The stop bits are the bits behind the parity bit. -/
theorem RxCharacter.stopsAtMark_iff : c.stopsAtMark f = true ↔
    ∀ j, (10 + if f.parity = .none then 0 else 1) ≤ j → j < f.bits → c.value j = true := by
  unfold RxCharacter.stopsAtMark Format.bits
  generalize (if f.parity = .none then 0 else 1) = k
  cases f.twoStops with
  | false =>
    simp only [Bool.not_false, Bool.true_or, Bool.and_true, Bool.false_eq_true, if_false]
    refine ⟨fun h j hlow hhigh => ?_, fun h => h _ (by omega) (by omega)⟩
    obtain rfl : j = 11 + k + 0 - 1 := by omega
    exact h
  | true =>
    simp only [Bool.not_true, Bool.false_or, Bool.and_eq_true, if_true]
    refine ⟨fun ⟨hlast, hfirst⟩ j hlow hhigh => ?_, fun h => ⟨h _ (by omega) (by omega), h _ (by omega) (by omega)⟩⟩
    obtain rfl | rfl : j = 11 + k + 1 - 1 ∨ j = 11 + k + 1 - 2 := by omega
    · exact hlast
    · exact hfirst

theorem RxCharacter.count_nine : c.nine.count true = (List.range 9).countP fun j => c.value (j + 1) := count_true_map _ _

theorem RxCharacter.countP_ten : ((List.range 10).countP fun j => c.value (j + 1)) = c.nine.count true + (c.value 10).toNat := by
  rw [RxCharacter.count_nine, List.range_succ, List.countP_append]
  cases h : c.value 10 <;> simp [h]

/-- The parity bit fails where the ten bits have the wrong count of 1s. -/
theorem RxCharacter.parityWrong_iff : c.parityWrong f = true ↔
    (f.parity = .even ∧ ((List.range 10).countP fun j => c.value (j + 1)) % 2 = 1) ∨
    (f.parity = .odd ∧ ((List.range 10).countP fun j => c.value (j + 1)) % 2 = 0) := by
  rw [RxCharacter.countP_ten, RxCharacter.parityWrong]
  have hodd := oddOnes_iff c.nine
  cases hp : f.parity with
  | none => simp [parityBits]
  | even =>
    cases hv : c.value 10 <;> cases ho : oddOnes c.nine <;> simp [parityBits, ho] at hodd ⊢ <;> omega
  | odd =>
    cases hv : c.value 10 <;> cases ho : oddOnes c.nine <;> simp [parityBits, ho] at hodd ⊢ <;> omega

theorem RxCharacter.isDamaged_iff : c.isDamaged f = true ↔
    (f.parity = .even ∧ ((List.range 10).countP fun j => c.value (j + 1)) % 2 = 1) ∨
    (f.parity = .odd ∧ ((List.range 10).countP fun j => c.value (j + 1)) % 2 = 0) ∨ c.stopsAtMark f = false := by
  rw [RxCharacter.isDamaged, Bool.or_eq_true, RxCharacter.parityWrong_iff, Bool.not_eq_true', or_assoc]

end

/-! ## The bits of a character (R152, R153) -/

/-- The bits behind the mark bit: parity where there is one, then the stop bits. -/
def tailBits (f : Format) (v : Byte) (m : Bool) : List Bool :=
  parityBits f.parity (dataBits v ++ [m]) ++ [true] ++ (if f.twoStops then [true] else [])

/-- The bits of a character in line order. -/
def characterBits (f : Format) (v : Byte) (m : Bool) : List Bool := false :: (dataBits v ++ [m] ++ tailBits f v m)

section
variable (f : Format) (v : Byte) (m : Bool)

theorem characterLevels_eq : characterLevels f v m = (characterBits f v m).map levelOf := by
  simp [characterLevels, characterBits, tailBits]

theorem characterBits_length : (characterBits f v m).length = f.bits := by
  cases hp : f.parity <;> cases hs : f.twoStops <;> simp [characterBits, tailBits, dataBits, parityBits, Format.bits, hp, hs]

theorem dataBits_eq : dataBits v = (List.range 8).map v.getLsbD := rfl

theorem dataBits_count : (dataBits v ++ [m]).count true = ((List.range 8).countP fun d => v.getLsbD d) + m.toNat := by
  rw [List.count_append, dataBits_eq, count_true_map]
  cases m <;> rfl

theorem characterBits_start : (characterBits f v m).getD 0 true = false := rfl

theorem characterBits_data {j : Nat} (hlow : 1 ≤ j) (hhigh : j ≤ 8) : (characterBits f v m).getD j true = v.getLsbD (j - 1) := by
  interval_cases j <;> rfl

theorem characterBits_markBit : (characterBits f v m).getD 9 true = m := rfl

theorem characterBits_tail (k : Nat) : (characterBits f v m).getD (10 + k) true = (tailBits f v m).getD k true := by
  have hlen : (false :: (dataBits v ++ [m])).length = 10 := rfl
  have hsplit : characterBits f v m = (false :: (dataBits v ++ [m])) ++ tailBits f v m := rfl
  rw [hsplit, List.getD_append_right _ _ _ _ (by omega), hlen, Nat.add_sub_cancel_left]

/-- Behind the parity bit every bit is mark, and so is what the line shows behind the character. -/
theorem characterBits_stops {j : Nat} (h : (10 + if f.parity = .none then 0 else 1) ≤ j) : (characterBits f v m).getD j true = true := by
  obtain ⟨k, rfl⟩ : ∃ k, j = 10 + k := ⟨j - 10, by omega⟩
  have hstops : ∀ n, ([true] ++ if f.twoStops then [true] else []).getD n true = true := by
    cases f.twoStops <;> rintro (_ | _ | n) <;> rfl
  rw [characterBits_tail, tailBits, List.append_assoc]
  cases hp : f.parity with
  | none => exact hstops k
  | even | odd =>
    rw [hp, if_neg (by decide)] at h
    obtain ⟨n, rfl⟩ : ∃ n, k = n + 1 := ⟨k - 1, by omega⟩
    exact hstops n

theorem characterBits_parity : (f.parity = .even → (characterBits f v m).getD 10 true = oddOnes (dataBits v ++ [m])) ∧
    (f.parity = .odd → (characterBits f v m).getD 10 true = !oddOnes (dataBits v ++ [m])) := by
  refine ⟨fun h => ?_, fun h => ?_⟩ <;> rw [characterBits_tail f v m 0, tailBits, h] <;> rfl

/-- Which bits of a character are mark. -/
theorem characterBits_getD (j : Nat) : (characterBits f v m).getD j true = true ↔
    (1 ≤ j ∧ j ≤ 8 ∧ v.getLsbD (j - 1) = true) ∨ (j = 9 ∧ m = true) ∨
      (j = 10 ∧ f.parity = .even ∧ (((List.range 8).countP fun d => v.getLsbD d) + m.toNat) % 2 = 1) ∨
      (j = 10 ∧ f.parity = .odd ∧ (((List.range 8).countP fun d => v.getLsbD d) + m.toNat) % 2 = 0) ∨
      (10 + if f.parity = .none then 0 else 1) ≤ j := by
  rw [← dataBits_count]
  have hfrom : 10 ≤ 10 + if f.parity = .none then 0 else 1 := Nat.le_add_right _ _
  obtain rfl | ⟨hlow, hhigh⟩ | rfl | rfl | htail : j = 0 ∨ (1 ≤ j ∧ j ≤ 8) ∨ j = 9 ∨ j = 10 ∨ 11 ≤ j := by omega
  · rw [characterBits_start]
    simp
  · rw [characterBits_data f v m hlow hhigh]
    have hne : j ≠ 9 ∧ j ≠ 10 ∧ ¬ (10 + if f.parity = .none then 0 else 1) ≤ j := by omega
    simp [hlow, hhigh, hne]
  · rw [characterBits_markBit]
    have hne : ¬ (10 + if f.parity = .none then 0 else 1) ≤ 9 := by omega
    simp [hne]
  · obtain ⟨heven, hodd⟩ := characterBits_parity f v m
    cases hp : f.parity with
    | none => rw [characterBits_stops f v m (by rw [if_pos hp])]; simp
    | even => rw [heven hp, oddOnes_iff]; simp
    | odd => rw [hodd hp, Bool.not_eq_true', oddOnes_eq_false_iff]; simp
  · have hstop : (10 + if f.parity = .none then 0 else 1) ≤ j := by split <;> omega
    rw [characterBits_stops f v m hstop]
    simp [hstop]

end

/-! ## The samples of a character that is sent (R156) -/

/-- Of 16 samples of one bit, the three in its middle are kept. -/
theorem foldl_sample_replicate (c : RxCharacter) (l : Level) (hc : c.count % 16 = 0) : ∀ k, k ≤ 16 →
    (List.replicate k l).foldl RxCharacter.sample c =
      { count := c.count + k, samples := c.samples ++ List.replicate (min 3 (k - 6)) l } := by
  intro k
  induction k with
  | zero => exact fun _ => by simp
  | succ k ih =>
    intro hk
    rw [List.replicate_succ', List.foldl_append, ih (by omega), List.foldl_cons, List.foldl_nil, RxCharacter.sample]
    by_cases hkeep : 6 ≤ k ∧ k ≤ 8
    · have hplace : 6 ≤ (c.count + k) % 16 ∧ (c.count + k) % 16 ≤ 8 := by omega
      have hcount : min 3 (k + 1 - 6) = min 3 (k - 6) + 1 := by omega
      rw [if_pos hplace, hcount, List.replicate_succ', List.append_assoc, Nat.add_assoc]
    · have hplace : ¬ (6 ≤ (c.count + k) % 16 ∧ (c.count + k) % 16 ≤ 8) := by omega
      have hcount : min 3 (k + 1 - 6) = min 3 (k - 6) := by omega
      rw [if_neg hplace, hcount, Nat.add_assoc]

theorem foldl_sample_bits (levels : List Level) : ∀ c : RxCharacter, c.count % 16 = 0 →
    (levels.flatMap (List.replicate 16)).foldl RxCharacter.sample c =
      { count := c.count + 16 * levels.length, samples := c.samples ++ levels.flatMap (List.replicate 3) } := by
  induction levels with
  | nil => exact fun c _ => by simp
  | cons l levels ih =>
    intro c hc
    rw [List.flatMap_cons, List.foldl_append, foldl_sample_replicate c l hc 16 le_rfl, ih _ (by simpa using hc),
      List.flatMap_cons, List.length_cons]
    simp only [List.append_assoc, RxCharacter.mk.injEq]
    exact ⟨by omega, rfl⟩

/-- The edge tick counts as sample 1, and is not one of those kept. -/
theorem ofLevels_bits (l : Level) (levels : List Level) :
    RxCharacter.ofLevels ((l :: levels).flatMap (List.replicate 16)) =
      { count := 16 * (levels.length + 1), samples := (l :: levels).flatMap (List.replicate 3) } := by
  have hfirst : RxCharacter.ofLevels ((l :: levels).flatMap (List.replicate 16)) =
      ((l :: levels).flatMap (List.replicate 16)).foldl RxCharacter.sample { count := 0, samples := [] } := rfl
  rw [hfirst, foldl_sample_bits _ _ rfl]
  simp

section
variable (f : Format) (v : Byte) (m : Bool)

/-- What a receiver of the same format has sampled of a character that was sent. -/
theorem ofLevels_sampleLevels : RxCharacter.ofLevels (sampleLevels f v m) =
    { count := 16 * f.bits, samples := ((characterBits f v m).map levelOf).flatMap (List.replicate 3) } := by
  have hcons : (characterBits f v m).map levelOf = levelOf false :: (dataBits v ++ [m] ++ tailBits f v m).map levelOf := rfl
  have hlen : (dataBits v ++ [m] ++ tailBits f v m).length + 1 = f.bits := characterBits_length f v m
  rw [sampleLevels, characterLevels_eq, hcons, ofLevels_bits, List.length_map, hlen]

theorem ofLevels_bit {j : Nat} (hj : j < f.bits) : (RxCharacter.ofLevels (sampleLevels f v m)).bit j =
    List.replicate 3 (levelOf ((characterBits f v m).getD j true)) := by
  have hlen : j < ((characterBits f v m).map levelOf).length := by rwa [List.length_map, characterBits_length]
  have hlen' : j < (characterBits f v m).length := by rwa [characterBits_length]
  have hblock := take_drop_flatMap (f := List.replicate 3) (fun _ : Level => List.length_replicate)
    ((characterBits f v m).map levelOf) j hlen
  rw [ofLevels_sampleLevels, RxCharacter.bit, hblock, List.getElem_map, List.getD_eq_getElem _ _ hlen']

theorem ofLevels_value {j : Nat} (hj : j < f.bits) :
    (RxCharacter.ofLevels (sampleLevels f v m)).value j = (characterBits f v m).getD j true := by
  rw [RxCharacter.value, ofLevels_bit f v m hj]
  cases (characterBits f v m).getD j true <;> rfl

theorem Format.bits_ge : 11 ≤ f.bits := by unfold Format.bits; omega

theorem ofLevels_byte : (RxCharacter.ofLevels (sampleLevels f v m)).byte = v := by
  have hbits := f.bits_ge
  refine BitVec.eq_of_getLsbD_eq fun j hj => ?_
  rw [RxCharacter.byte_getLsbD _ hj, ofLevels_value f v m (by omega), characterBits_data f v m (by omega) (by omega),
    Nat.add_sub_cancel]

theorem ofLevels_not_noisy : (RxCharacter.ofLevels (sampleLevels f v m)).isNoisy f = false := by
  rw [RxCharacter.isNoisy, List.any_eq_false]
  intro j hj
  rw [ofLevels_bit f v m (List.mem_range.mp hj)]
  cases (characterBits f v m).getD j true <;> decide

theorem ofLevels_nine : (RxCharacter.ofLevels (sampleLevels f v m)).nine = dataBits v ++ [m] := by
  have hbits := f.bits_ge
  have hnine : (List.range 9).map (fun j => (characterBits f v m).getD (j + 1) true) = dataBits v ++ [m] := rfl
  rw [← hnine, RxCharacter.nine]
  exact List.map_congr_left fun j hj => ofLevels_value f v m (by have := List.mem_range.mp hj; omega)

theorem ofLevels_parity_right : (RxCharacter.ofLevels (sampleLevels f v m)).parityWrong f = false := by
  obtain ⟨heven, hodd⟩ := characterBits_parity f v m
  have hten : f.parity ≠ .none → (RxCharacter.ofLevels (sampleLevels f v m)).value 10 = (characterBits f v m).getD 10 true :=
    fun hp => ofLevels_value f v m (by unfold Format.bits; rw [if_neg hp]; omega)
  rw [RxCharacter.parityWrong, ofLevels_nine]
  cases hp : f.parity with
  | none => rfl
  | even =>
    have hvalue := (hten (by rw [hp]; nofun)).trans (heven hp)
    simp [parityBits, hvalue]
  | odd =>
    have hvalue := (hten (by rw [hp]; nofun)).trans (hodd hp)
    simp [parityBits, hvalue]

theorem ofLevels_not_damaged : (RxCharacter.ofLevels (sampleLevels f v m)).isDamaged f = false := by
  have hstops : (RxCharacter.ofLevels (sampleLevels f v m)).stopsAtMark f = true :=
    (RxCharacter.stopsAtMark_iff _ f).mpr fun j hlow hhigh => by
      rw [ofLevels_value f v m hhigh, characterBits_stops f v m hlow]
  rw [RxCharacter.isDamaged, ofLevels_parity_right, hstops]
  rfl

end

end Sys2Proof.Machine
end

section
/-! PROOFS. What a transmission puts on its pin (R140, R152 to R154), and the pins (R115, R161, R163): O16. -/

namespace Sys2Proof.Machine

/-! ## The time of a transmission (R154)

The cycles of REFCLK bring a transmission from place to place: a character, a sample tick in it, and a cycle of that tick. -/

/-- A transmission of these characters at this place. -/
def Transmission.placed (chars : List Byte) (ls : LineSettings) (sent tick cycles : Nat) : Transmission :=
  { chars := chars, sent := sent, tick := tick, cycles := cycles, settings := ls, addressFirst := true }

section
variable {chars : List Byte} {ls : LineSettings} {i t : Nat}

theorem Transmission.not_finished_placed (hi : i < chars.length) (t k : Nat) : (Transmission.placed chars ls i t k).finished = false :=
  decide_eq_false (Nat.not_le.mpr hi)

/-- The cycles of a sample tick, but for its last. -/
theorem Transmission.iterate_cycles (hi : i < chars.length) (t : Nat) : ∀ k, k ≤ ls.divisor.toNat →
    Transmission.cycle^[k] (.placed chars ls i t 0) = .placed chars ls i t k := by
  intro k
  induction k with
  | zero => exact fun _ => rfl
  | succ k ih =>
    intro hk
    have hlt : (Transmission.placed chars ls i t k).cycles < ls.divisor.toNat := hk
    rw [Function.iterate_succ_apply', ih (by omega), Transmission.cycle, Transmission.not_finished_placed hi,
      if_neg Bool.false_ne_true]
    exact if_pos hlt

/-- A whole sample tick. -/
theorem Transmission.iterate_tick (hi : i < chars.length) (t : Nat) :
    Transmission.cycle^[ls.divisor.toNat + 1] (.placed chars ls i t 0) =
      if t + 1 < ls.ct then .placed chars ls i (t + 1) 0 else .placed chars ls (i + 1) 0 0 := by
  have hlast : ¬ (Transmission.placed chars ls i t ls.divisor.toNat).cycles < ls.divisor.toNat := Nat.lt_irrefl _
  rw [Function.iterate_succ_apply', Transmission.iterate_cycles hi t _ le_rfl, Transmission.cycle,
    Transmission.not_finished_placed hi, if_neg Bool.false_ne_true]
  exact if_neg hlast

/-- The sample ticks of a character, but for its last. -/
theorem Transmission.iterate_ticks (hi : i < chars.length) : ∀ t, t < ls.ct →
    Transmission.cycle^[t * (ls.divisor.toNat + 1)] (.placed chars ls i 0 0) = .placed chars ls i t 0 := by
  intro t
  induction t with
  | zero => exact fun _ => by rw [Nat.zero_mul]; rfl
  | succ t ih =>
    intro ht
    rw [Nat.succ_mul, Nat.add_comm, Function.iterate_add_apply, ih (by omega), Transmission.iterate_tick hi, if_pos ht]

theorem LineSettings.ct_pos (ls : LineSettings) : 0 < ls.ct := by
  have hbits := ls.format.bits_ge
  unfold LineSettings.ct
  omega

/-- A whole character. -/
theorem Transmission.iterate_character (hi : i < chars.length) :
    Transmission.cycle^[ls.ctCycles] (.placed chars ls i 0 0) = .placed chars ls (i + 1) 0 0 := by
  obtain ⟨t, ht⟩ : ∃ t, ls.ct = t + 1 := ⟨ls.ct - 1, by have := ls.ct_pos; omega⟩
  rw [LineSettings.ctCycles, ht, Nat.succ_mul, Nat.add_comm, Function.iterate_add_apply,
    Transmission.iterate_ticks hi t (by omega), Transmission.iterate_tick hi, if_neg (by omega)]

/-- The characters of a frame follow each other without idle time. -/
theorem Transmission.iterate_characters : ∀ i, i ≤ chars.length →
    Transmission.cycle^[i * ls.ctCycles] (Transmission.start chars ls) = .placed chars ls i 0 0 := by
  intro i
  induction i with
  | zero => exact fun _ => by rw [Nat.zero_mul]; rfl
  | succ i ih =>
    intro hi
    rw [Nat.succ_mul, Nat.add_comm, Function.iterate_add_apply, ih (by omega), Transmission.iterate_character hi]

/-- The place of a transmission at any cycle of its characters. -/
theorem Transmission.iterate_place (hi : i < chars.length) (ht : t < ls.ct) {k : Nat} (hk : k ≤ ls.divisor.toNat) :
    Transmission.cycle^[i * ls.ctCycles + (t * (ls.divisor.toNat + 1) + k)] (Transmission.start chars ls) =
      .placed chars ls i t k := by
  rw [Nat.add_comm (i * _), Function.iterate_add_apply, Transmission.iterate_characters i hi.le,
    Nat.add_comm (t * _), Function.iterate_add_apply, Transmission.iterate_ticks hi t ht, Transmission.iterate_cycles hi t k hk]

/-- The cycles of a bit, in sample ticks. -/
theorem LineSettings.ctCycles_eq (ls : LineSettings) : ls.ctCycles = ls.format.bits * (16 * (ls.divisor.toNat + 1)) := by
  rw [LineSettings.ctCycles, LineSettings.ct]
  ring

/-- At any cycle of a bit, the transmission is in that bit of its character. -/
theorem Transmission.iterate_bit (hi : i < chars.length) {j : Nat} (hj : j < ls.format.bits) {k : Nat}
    (hk : k < 16 * (ls.divisor.toNat + 1)) : ∃ t c, t / 16 = j ∧
    Transmission.cycle^[(i * ls.format.bits + j) * (16 * (ls.divisor.toNat + 1)) + k] (Transmission.start chars ls) =
      .placed chars ls i t c := by
  have hpos : 0 < ls.divisor.toNat + 1 := Nat.succ_pos _
  have hticks : k / (ls.divisor.toNat + 1) < 16 := (Nat.div_lt_iff_lt_mul hpos).mpr hk
  have hcycles : k % (ls.divisor.toNat + 1) ≤ ls.divisor.toNat := Nat.lt_succ_iff.mp (Nat.mod_lt _ hpos)
  have hplace : (i * ls.format.bits + j) * (16 * (ls.divisor.toNat + 1)) + k =
      i * ls.ctCycles + ((16 * j + k / (ls.divisor.toNat + 1)) * (ls.divisor.toNat + 1) + k % (ls.divisor.toNat + 1)) := by
    rw [LineSettings.ctCycles_eq, Nat.add_mul (16 * j), Nat.add_assoc, Nat.mul_comm (k / _), Nat.div_add_mod]
    ring
  refine ⟨16 * j + k / (ls.divisor.toNat + 1), k % (ls.divisor.toNat + 1),
    by rw [Nat.mul_add_div (by decide), Nat.div_eq_of_lt hticks, Nat.add_zero], ?_⟩
  rw [hplace]
  exact Transmission.iterate_place hi (by unfold LineSettings.ct; omega) hcycles

end

/-! ## The level on the pin (R152, R153) -/

theorem levelOf_eq_mark (b : Bool) : levelOf b = .mark ↔ b = true := by cases b <;> decide

theorem Transmission.level_placed {chars : List Byte} {ls : LineSettings} {i : Nat} (hi : i < chars.length) (t c : Nat) :
    (Transmission.placed chars ls i t c).level =
      levelOf ((characterBits ls.format (charAt chars i) (decide (i = 0))).getD (t / 16) true) := by
  have hlevels : characterLevels ls.format (charAt chars i) (true && i == 0) =
      (characterBits ls.format (charAt chars i) (decide (i = 0))).map levelOf := by
    rw [characterLevels_eq, Bool.true_and, beq_eq_decide]
  rw [Transmission.level, Transmission.not_finished_placed hi, if_neg Bool.false_ne_true]
  refine (congrArg (List.getD · (t / 16) Level.mark) hlevels).trans ?_
  exact List.getD_map _ true levelOf

/-! ## The pins (R115, R161, R163) -/

theorem BranchPort.transmitLevel_spec (p : BranchPort) :
    ((∃ k, p.line = .breakOut k) → p.transmitLevel = .space) ∧
    ((∀ k, p.line ≠ .breakOut k) → (p.sending = none → p.transmitLevel = .mark) ∧
      ∀ tx, p.sending = some tx → p.transmitLevel = tx.level) := by
  refine ⟨fun h => if_pos (p.line.isBreakOut_iff.mpr h), fun h => ?_⟩
  have hout : ¬ p.line.isBreakOut = true := by rw [LineState.isBreakOut_iff]; simp [h]
  refine ⟨fun hs => ?_, fun tx hs => ?_⟩ <;> rw [BranchPort.transmitLevel, if_neg hout, hs]

/-- A branch that drives what it sends drives while DRIVING, in an emission, and at the end of a stopped character. -/
theorem BranchPort.DrivesWhatItSends.driverEnabled_iff {p : BranchPort} (h : p.DrivesWhatItSends) : p.driverEnabled = true ↔
    (∃ a, p.line = .driving a) ∨ (∃ k, p.line = .breakOut k) ∨ ((p.line = .off ∨ ∃ c, p.line = .settling c) ∧ p.sending ≠ none) := by
  obtain ⟨hdriving, hsending, -⟩ := h
  rw [p.driverEnabled_iff]
  constructor
  · rintro (hs | hout)
    · rcases hsending hs with hd | hoff | hsettling
      · exact .inl hd
      · exact .inr (.inr ⟨.inl hoff, hs⟩)
      · exact .inr (.inr ⟨.inr hsettling, hs⟩)
    · exact .inr (.inl hout)
  · rintro (hd | hout | ⟨-, hs⟩)
    · exact .inl (hdriving hd)
    · exact .inr hout
    · exact .inl hs

theorem TrunkPort.transmitLevel_spec (p : TrunkPort) :
    (p.transmitter = .idle ∨ (∃ left, p.transmitter = .spacing left) → p.transmitLevel = .mark) ∧
    (∀ tx, (p.transmitter = .stopping tx ∨ ∃ item, p.transmitter = .sending item tx) → p.transmitLevel = tx.level) := by
  unfold TrunkPort.transmitLevel
  refine ⟨?_, fun tx => ?_⟩
  · rintro (h | ⟨left, h⟩) <;> rw [h]
  · rintro (h | ⟨item, h⟩) <;> rw [h]

/-- Settles O16: what is sampled of a sent character, the place of a transmission at every cycle, and the pins that carry it. -/
theorem sentCharacterIsReadBack : Obligations.SentCharacterIsReadBack := by
  unfold Obligations.SentCharacterIsReadBack
  refine ⟨fun f v m => ?readBack, fun chars ls => ?sent, fun _ => rfl, fun p => ?branch, TrunkPort.transmitLevel_spec,
    fun c f => ⟨c.value_eq, fun j hj => ?byte, c.value_eq 9, c.isNoisy_iff f, ?stops, ?damaged⟩⟩
  case readBack =>
    have hbits := f.bits_ge
    refine ⟨?_, ofLevels_byte f v m, ofLevels_value f v m (by omega), ofLevels_not_noisy f v m, ofLevels_not_damaged f v m,
      ofLevels_value f v m (by omega)⟩
    rw [RxCharacter.ended, ofLevels_sampleLevels]
    exact decide_eq_true le_rfl
  case sent =>
    intro bits bitTime after parityFrom
    have hend : after (chars.length * bits * bitTime) = .placed chars ls chars.length 0 0 := by
      have hplace := Transmission.iterate_characters (chars := chars) (ls := ls) chars.length le_rfl
      rw [LineSettings.ctCycles_eq, ← Nat.mul_assoc] at hplace
      exact hplace
    have hfinished : (Transmission.placed chars ls chars.length 0 0).finished = true := decide_eq_true le_rfl
    refine ⟨fun i j k hi hj hk => ?_, by rw [hend]; exact hfinished, ?_, rfl, ls.ctCycles_eq⟩
    · obtain ⟨t, c, rfl, hplace⟩ := Transmission.iterate_bit (ls := ls) hi hj hk
      intro v ones tx
      have htx : tx = .placed chars ls i t c := hplace
      have hones : ones = ((List.range 8).countP fun d => v.getLsbD d) + (decide (i = 0)).toNat := by
        by_cases h : i = 0 <;> simp [ones, h]
      rw [htx, Transmission.level_placed hi, levelOf_eq_mark, characterBits_getD, ← hones, decide_eq_true_iff]
      exact ⟨Transmission.not_finished_placed hi t c, rfl, Iff.rfl⟩
    · rw [hend, Transmission.level, hfinished]
      rfl
  case branch =>
    obtain ⟨hspace, hother⟩ := p.transmitLevel_spec
    exact ⟨hspace, hother, p.driverEnabled_iff, BranchPort.DrivesWhatItSends.driverEnabled_iff⟩
  case byte => rw [RxCharacter.byte_getLsbD c hj, RxCharacter.value_eq]
  case stops =>
    rw [RxCharacter.stopsAtMark_iff]
    simp only [RxCharacter.value_eq]
  case damaged =>
    rw [RxCharacter.isDamaged_iff]
    simp only [RxCharacter.value_eq]

end Sys2Proof.Machine
end
